-- ==== Sys2Proof/Word.lean ====
section
/-!
DEFINITION. The characters of the host port (00_scope section 5) and texts made of them. The WX-320 has no machine word:
its counts are naturals with the ranges the manual gives, its levels are integers, and only a received
character is a bit pattern (8 data bits, section 11.1).
-/

namespace Sys2Proof

/-- One received character code: the host port's line carries 8 data bits (section 11.1). -/
abbrev Code := BitVec 8

/-- A text or a line: its character codes, first character first. -/
abbrev Text := List Code

/-- The text that a Lean string of ASCII characters spells. -/
def ascii (t : String) : Text := t.toList.map fun c => BitVec.ofNat 8 c.toNat

end Sys2Proof
end

