-- ==== Sys2Proof/Syntax.lean ====
section
/-!
DEFINITION. The commands of the WX-320: the names and words of the host port's grammar, the operands, and `Instr`, one
constructor for each row of spec/opcode_table.json. A request constructor carries the request's tag and its fields, each
number as the host sent it (the owning block checks its range); an event constructor carries the unit, gate,
watch, line or timer at which the event happens.
-/

namespace Sys2Proof

/-! ## Names and words of the port's grammar -/

/-- A field name of a request, a reply or a notice (sections 11.2, 11.4 and the owning chapters). -/
inductive Key where
  | index | kind | level | zone | label | remove | read | fromSide | toSide | length | group | state | trim
  | wait | name | category | doors | d0 | d1 | d2 | d3 | d4 | d5 | d6 | override | target | listing | value
  | startsWith | start | screen | point | cadence | language | idle | clear | profile | cls | exit | route
  | gate | mode | invert | stuck | enable | busy | crowded | margin | hold | period | n | next | watch
  | subject | cmp | threshold | action | count | chained | line | holdoff | page | text | weekday | minute
  | second | timer | pages | role | restart | routeResult | zoneClass | gateFault | gateClear | hours | evac
  | gen | clamped | schedule | sched | demand | found | more | check | field | limit | superseded | was
  | levels | inbound | outbound | fault | occ | below | closed | est | tick | changed | frozen | alert
  | configured | remaining | occurred | depth | top | topval | trimmed | withdrawn | lang | pending | shown
  | idleLeft | due | clock | run | values | family | part | rev | queued | outstanding | notices | lost
  | frames | failures | old | new | beam | cause | halted | closedNow | outcome | flags | arrival | cost
  | eta | legs
deriving DecidableEq, Repr

/-- A word that stands as a value in a request, a reply or a notice. -/
inductive Kw where
  | junction | door | liftLanding | escalatorEnd | stairHead | screenPoint | exit | walk | ramp | stairs
  | escalator | lift | travelator | service | opened | closed | absent | forcedOpen | forcedClosed | vacant
  | relocated | unknown | moved | standard | stepFree | quick | evacuation | clear | busy | crowded | off
  | twoWay | oneWay | pulse | outside | enterA | midA | leaveA | enterB | midB | leaveB | midUnknown | fault
  | enabled | disabling | disabled | occupancy | cls | gateFault | demand | failures | queueDepth | atLeast
  | below | report | freeze | apply | stage | waiting | armed | holdoff | fired | staged | category | listing
  | search | levelMap | route | home | dormant | idle | active | routePending | routeShown | alert | load
  | inactive | pending | repeating | once | plain | master | follower | run | halt | line | host | start
  | stop | ended | lineLow | minute | clock | period | isSet | isUnset | delivered | noRoute
  | noRouteUnsettled | noDestination | unresolvedMove | noExit | superseded | cancelled | withdrawn
  | evacCancelled | evacEnded | serviceStopped | atDestination | destClosed | hoursUnknown | originClosed
  | estimated | truncated | unsettled | normal | a | b | queued | outcomes | queue | continue
  | segmentEndpoint | liftGroup | doorKind | relocationTarget | uviaro | wx320 | routeResult | zoneClass
  | gateClear | watch | hours | evac | cadence
deriving DecidableEq, Repr

/-- A verb of the catalogue, section 11.8. -/
inductive Verb where
  | status | fetch | mask | start | stop | mapClear | node | seg | segState | segTrim | liftWait | listing
  | override | search | lookup | demand | screen | pace | mult | route | routeCancel | gate | gateRead | zone
  | censusPeriod | zoneClose | zoneOpen | occupancy | censusZero | historyResume | history | zoneRead | watch
  | watchArm | watchOff | watchRead | nav | back | backRestore | home | prefs | tap | screenGet | evac
  | evacEnd | clock | clockRead | cadence | cadenceRun | cadenceHalt
deriving DecidableEq, Repr

/-- A status word of a reply's first line (R166). -/
inductive Status where
  | ok | busy | unknownVerb | badField | outOfRange | wrongMode | notFound | queueFull | evacActive
  | evacLine | notActive | mapInvalid | conflict
deriving DecidableEq, Repr

/-! ## Enumerated operands -/

/-- What a node is (section 1.2). -/
inductive NodeKind where
  | junction | door | liftLanding | escalatorEnd | stairHead | screenPoint | exit
deriving DecidableEq, Repr

/-- What a segment is (section 1.3): it selects the pace table column (R23). -/
inductive SegKind where
  | walk | ramp | stairs | escalator | lift | travelator | door | service
deriving DecidableEq, Repr

/-- The state of a segment (R5). -/
inductive OpenState where
  | opened | closed
deriving DecidableEq, Repr

/-- A routing profile (R23). -/
inductive Profile where
  | standard | stepFree | quick | evacuation
deriving DecidableEq, Repr

/-- The class of a zone (R91). -/
inductive ZoneClass where
  | clear | busy | crowded
deriving DecidableEq, Repr

/-- The VALUE of an OVERRIDE request, and the OVERRIDE of a LISTING put (R7, R9). -/
inductive OverrideWord where
  | absent | forcedOpen | forcedClosed | vacant | relocated
deriving DecidableEq, Repr

/-- How a gate decodes its beam events (R75). -/
inductive GateMode where
  | off | twoWay | oneWay | pulse
deriving DecidableEq, Repr

/-- One of the two beams of a gate. -/
inductive Beam where
  | a | b
deriving DecidableEq, Repr

/-- One of the two route units. -/
inductive UnitName where
  | a | b
deriving DecidableEq, Repr

/-- The SUBJECT of a WATCH request (R112). -/
inductive SubjectWord where
  | occupancy | cls | gateFault | demand | failures | queueDepth
deriving DecidableEq, Repr

/-- How a watch compares the value it reads with its threshold (R110). -/
inductive Cmp where
  | atLeast | below
deriving DecidableEq, Repr

/-- The ACTION of a WATCH request (R112). -/
inductive ActionWord where
  | report | pulse | freeze | apply | stage
deriving DecidableEq, Repr

/-- The kind of a page of a navigation stack (R125). -/
inductive PageKind where
  | category | listing | search | levelMap | route
deriving DecidableEq, Repr

/-- Whether a loop wraps or stops at its last page (R157). -/
inductive CadenceMode where
  | repeating | once
deriving DecidableEq, Repr

/-- How a cadence timer takes part in resynchronisation (R157). -/
inductive CadenceRole where
  | plain | master | follower
deriving DecidableEq, Repr

/-! ## Request fields

Every `Option` below is `none` when the field is left out. A field that takes a number or one fixed word (`ZONE=NONE`,
`FROM=OUTSIDE`, `CADENCE=NONE`) is an `Option (Option Nat)`: `some none` is the word. -/

/-- One day of a week schedule (section 1.5). -/
inductive DayEntry where
  | closed
  | window (openAt closeAt : Nat)
deriving DecidableEq, Repr

/-- The fields of a NODE request beside INDEX (R3). -/
structure NodeArgs where
  kind : Option NodeKind := none
  level : Option Int := none
  zone : Option Nat := none
  label : Option Text := none
  remove : Option Nat := none
  read : Option Nat := none
deriving DecidableEq, Repr

/-- The fields of a SEG request beside INDEX (R4). -/
structure SegArgs where
  src : Option Nat := none
  dst : Option Nat := none
  length : Option Nat := none
  kind : Option SegKind := none
  zone : Option (Option Nat) := none
  group : Option Nat := none
  state : Option OpenState := none
  trim : Option Nat := none
  remove : Option Nat := none
  read : Option Nat := none
deriving DecidableEq, Repr

/-- The fields of a LISTING request beside INDEX (R7); `days` holds the fields D0 to D6. -/
structure ListingArgs where
  name : Option Text := none
  category : Option Nat := none
  doors : Option (List Nat) := none
  days : Vector (Option DayEntry) 7 := Vector.replicate 7 none
  override : Option OverrideWord := none
  target : Option Nat := none
  remove : Option Nat := none
deriving DecidableEq, Repr

/-- The fields of a SCREEN request beside SCREEN (R15). -/
structure ScreenArgs where
  point : Option Nat := none
  cadence : Option (Option Nat) := none
  language : Option Nat := none
  idle : Option Nat := none
  remove : Option Nat := none
  read : Option Nat := none
deriving DecidableEq, Repr

/-- The fields of a ROUTE request (R35). -/
structure RouteArgs where
  screen : Option Nat := none
  src : Option Nat := none
  listing : Option Nat := none
  dst : Option Nat := none
  category : Option Nat := none
  exit : Option Nat := none
  profile : Option Profile := none
deriving DecidableEq, Repr

/-- The fields of a GATE request beside GATE (R88). -/
structure GateArgs where
  mode : Option GateMode := none
  src : Option (Option Nat) := none
  dst : Option (Option Nat) := none
  invert : Option Nat := none
  stuck : Option Nat := none
deriving DecidableEq, Repr

/-- The fields of a ZONE request beside ZONE (R92). -/
structure ZoneArgs where
  enable : Option Nat := none
  busy : Option Nat := none
  crowded : Option Nat := none
  margin : Option Nat := none
  hold : Option Nat := none
deriving DecidableEq, Repr

/-- The fields of a WATCH request beside WATCH (R112). -/
structure WatchArgs where
  subject : SubjectWord
  cmp : Cmp
  threshold : Nat
  action : ActionWord
  zone : Option Nat := none
  gate : Option Nat := none
  listing : Option Nat := none
  count : Option Nat := none
  chained : Option Nat := none
  line : Option Nat := none
  target : Option Nat := none
  holdOff : Option Nat := none
deriving DecidableEq, Repr

/-- The fields of a NAV request beside SCREEN (R129). -/
structure NavArgs where
  page : PageKind
  category : Option Nat := none
  listing : Option Nat := none
  text : Option Text := none
  level : Option Int := none
deriving DecidableEq, Repr

/-- The fields of a CADENCE request beside TIMER (R161). -/
structure CadenceArgs where
  period : Option Nat := none
  pages : Option Nat := none
  mode : Option CadenceMode := none
  role : Option CadenceRole := none
deriving DecidableEq, Repr

/-- The fields of a MASK request (R170). -/
structure MaskArgs where
  routeResult : Option Nat := none
  zoneClass : Option Nat := none
  gateFault : Option Nat := none
  gateClear : Option Nat := none
  watch : Option Nat := none
  hours : Option Nat := none
  evac : Option Nat := none
  cadence : Option Nat := none
deriving DecidableEq, Repr

/-! ## The commands -/

/-- The operations and events of the WX-320, one constructor for each row of spec/opcode_table.json, in the table's order. -/
inductive Instr where
  | hardReset
  | lineComplete
  | assemblyTimerExpiry
  | unknownVerb (line : Text)
  | status (tag : Nat) (clear : Option Nat)
  | fetch (tag : Nat)
  | mask (tag : Nat) (args : MaskArgs)
  | start (tag : Nat)
  | stop (tag : Nat)
  | mapClear (tag : Nat)
  | nodePut (tag index : Nat) (args : NodeArgs)
  | nodeRemove (tag index : Nat) (args : NodeArgs)
  | nodeRead (tag index : Nat) (args : NodeArgs)
  | segPut (tag index : Nat) (args : SegArgs)
  | segRemove (tag index : Nat) (args : SegArgs)
  | segRead (tag index : Nat) (args : SegArgs)
  | segState (tag index : Nat) (value : OpenState)
  | segTrim (tag index trim : Nat)
  | liftWait (tag group wait : Nat)
  | liftWaitRead (tag group : Nat)
  | listingPut (tag index : Nat) (args : ListingArgs)
  | listingRemove (tag index : Nat) (args : ListingArgs)
  | override (tag listing : Nat) (value : OverrideWord) (target : Option Nat)
  | search (tag : Nat) (text : Text) (category : Option Nat) (start : Nat)
  | lookup (tag listing : Nat)
  | demand (tag : Nat) (listing clear : Option Nat)
  | screenDeclare (tag screen : Nat) (args : ScreenArgs)
  | screenUndeclare (tag screen : Nat) (args : ScreenArgs)
  | screenRead (tag screen : Nat) (args : ScreenArgs)
  | paceWrite (tag : Nat) (profile : Profile) (kind : Option SegKind) (value : Nat)
  | paceRead (tag : Nat) (profile : Profile) (kind : Option SegKind)
  | multWrite (tag : Nat) (profile : Profile) (cls : Option ZoneClass) (value : Nat)
  | multRead (tag : Nat) (profile : Profile) (cls : Option ZoneClass)
  | route (tag : Nat) (args : RouteArgs)
  | routeCancel (tag id : Nat)
  | completionEvent (u : UnitName)
  | beamEvent (g : Fin 32) (beam : Beam)
  | pairEvent (g : Fin 32)
  | stuckTimerExpiry (g : Fin 32) (beam : Beam)
  | recoveryTimerExpiry (g : Fin 32)
  | gate (tag index : Nat) (args : GateArgs)
  | gateRead (tag : Nat) (index clear : Option Nat)
  | zone (tag index : Nat) (args : ZoneArgs)
  | censusPeriod (tag period : Nat)
  | censusPeriodRead (tag : Nat)
  | censusTick
  | zoneClose (tag index : Nat)
  | zoneOpen (tag index : Nat)
  | occupancy (tag index n : Nat)
  | censusZero (tag : Nat)
  | historyResume (tag : Nat)
  | history (tag : Nat) (next : Option Nat)
  | zoneRead (tag : Nat) (index : Option Nat)
  | watch (tag index : Nat) (args : WatchArgs)
  | watchArm (tag index : Nat)
  | watchOff (tag index : Nat)
  | watchRead (tag : Nat) (index : Option Nat)
  | holdOffExpiry (w : Fin 8)
  | pulseTimerExpiry (l : Fin 4)
  | nav (tag screen : Nat) (args : NavArgs)
  | back (tag screen : Nat)
  | backRestore (tag screen : Nat)
  | home (tag screen : Nat)
  | prefs (tag screen : Nat) (language : Option Nat) (profile : Option Profile)
  | tap (tag screen : Nat)
  | screenGet (tag screen : Nat)
  | idleTimerExpiry (screen : Fin 48)
  | evacInRise
  | evacInFall
  | evac (tag : Nat)
  | evacEnd (tag : Nat)
  | timebaseSecond
  | cadencePeriodExpiry (t : Fin 8)
  | clock (tag weekday minute : Nat) (second : Option Nat)
  | clockRead (tag : Nat)
  | cadence (tag timer : Nat) (args : CadenceArgs)
  | cadenceRead (tag timer : Nat)
  | cadenceRun (tag timer : Nat) (restart : Option Nat)
  | cadenceHalt (tag timer : Nat)
  | characterReceived (code : Code) (damaged : Bool)
  | beamLineChange (g : Fin 32) (beam : Beam) (high : Bool)
  | evacInLineChange (high : Bool)
  | replyTransmitted
deriving DecidableEq, Repr

/-- The tag of a request (section 11.2); an event of the part's own has none. -/
def Instr.tag? : Instr → Option Nat
  | .hardReset => none
  | .lineComplete => none
  | .assemblyTimerExpiry => none
  | .unknownVerb _ => none
  | .status tag _ => some tag
  | .fetch tag => some tag
  | .mask tag _ => some tag
  | .start tag => some tag
  | .stop tag => some tag
  | .mapClear tag => some tag
  | .nodePut tag _ _ => some tag
  | .nodeRemove tag _ _ => some tag
  | .nodeRead tag _ _ => some tag
  | .segPut tag _ _ => some tag
  | .segRemove tag _ _ => some tag
  | .segRead tag _ _ => some tag
  | .segState tag _ _ => some tag
  | .segTrim tag _ _ => some tag
  | .liftWait tag _ _ => some tag
  | .liftWaitRead tag _ => some tag
  | .listingPut tag _ _ => some tag
  | .listingRemove tag _ _ => some tag
  | .override tag _ _ _ => some tag
  | .search tag _ _ _ => some tag
  | .lookup tag _ => some tag
  | .demand tag _ _ => some tag
  | .screenDeclare tag _ _ => some tag
  | .screenUndeclare tag _ _ => some tag
  | .screenRead tag _ _ => some tag
  | .paceWrite tag _ _ _ => some tag
  | .paceRead tag _ _ => some tag
  | .multWrite tag _ _ _ => some tag
  | .multRead tag _ _ => some tag
  | .route tag _ => some tag
  | .routeCancel tag _ => some tag
  | .completionEvent _ => none
  | .beamEvent _ _ => none
  | .pairEvent _ => none
  | .stuckTimerExpiry _ _ => none
  | .recoveryTimerExpiry _ => none
  | .gate tag _ _ => some tag
  | .gateRead tag _ _ => some tag
  | .zone tag _ _ => some tag
  | .censusPeriod tag _ => some tag
  | .censusPeriodRead tag => some tag
  | .censusTick => none
  | .zoneClose tag _ => some tag
  | .zoneOpen tag _ => some tag
  | .occupancy tag _ _ => some tag
  | .censusZero tag => some tag
  | .historyResume tag => some tag
  | .history tag _ => some tag
  | .zoneRead tag _ => some tag
  | .watch tag _ _ => some tag
  | .watchArm tag _ => some tag
  | .watchOff tag _ => some tag
  | .watchRead tag _ => some tag
  | .holdOffExpiry _ => none
  | .pulseTimerExpiry _ => none
  | .nav tag _ _ => some tag
  | .back tag _ => some tag
  | .backRestore tag _ => some tag
  | .home tag _ => some tag
  | .prefs tag _ _ _ => some tag
  | .tap tag _ => some tag
  | .screenGet tag _ => some tag
  | .idleTimerExpiry _ => none
  | .evacInRise => none
  | .evacInFall => none
  | .evac tag => some tag
  | .evacEnd tag => some tag
  | .timebaseSecond => none
  | .cadencePeriodExpiry _ => none
  | .clock tag _ _ _ => some tag
  | .clockRead tag => some tag
  | .cadence tag _ _ => some tag
  | .cadenceRead tag _ => some tag
  | .cadenceRun tag _ _ => some tag
  | .cadenceHalt tag _ => some tag
  | .characterReceived _ _ => none
  | .beamLineChange _ _ _ => none
  | .evacInLineChange _ => none
  | .replyTransmitted => none

end Sys2Proof
end

