-- ==== Sys2Proof/Machine/State.lean ====
section
/-!
DEFINITION. The state of the WX-320 as plain data: the ten blocks of section 2 of the scope file, and the queue of commands
waiting. A table over a sparse index range (nodes, segments, listings) is a list of keyed records with strictly
rising keys; a table over a fixed range (gates, zones, watches, ...) is a vector.
-/

namespace Sys2Proof.Machine

/-! ## Map store (chapters 1 and 2) -/

/-- A sparse table: keyed records, keys strictly rising (`Table.wf`). -/
abbrev Table (α : Type) := List (Nat × α)

/-- The engine mode (R1). -/
inductive EngineMode where
  | load | service
deriving DecidableEq, Repr

/-- A node record (section 1.2). -/
structure Node where
  kind : NodeKind
  level : Int
  zone : Option (Fin 32)
  label : Option Text
deriving DecidableEq, Repr

/-- A segment record (section 1.3). -/
structure Seg where
  src : Nat
  dst : Nat
  length : Nat
  kind : SegKind
  zone : Option (Fin 32)
  group : Option (Fin 16)
  state : OpenState
  trim : Nat
deriving DecidableEq, Repr

/-- The override of a listing (R9). -/
inductive Override where
  | absent | forcedOpen | forcedClosed | vacant | relocated (target : Nat)
deriving DecidableEq, Repr

/-- The schedule state of a listing (R8). -/
inductive SchedState where
  | opened | closed | unknown
deriving DecidableEq, Repr

/-- A week schedule with the schedule state that a listing holds while it has one (R8). -/
structure Hours where
  week : Vector DayEntry 7
  state : SchedState
deriving DecidableEq, Repr

/-- A listing record (section 1.5). -/
structure Listing where
  name : Text
  category : Nat
  doors : List Nat
  hours : Option Hours
  override : Override
  demand : Nat
deriving DecidableEq, Repr

/-- The effective state of a listing (R10); it is formed, not stored. -/
inductive EffState where
  | opened | closed | unknown | vacant | moved (target : Nat)
deriving DecidableEq, Repr

/-- The map store (chapters 1 and 2). The screens' declarations stand with their sessions in `Screen`. -/
structure MapStore where
  mode : EngineMode
  generation : Nat
  nodes : Table Node
  segs : Table Seg
  listings : Table Listing
  nameIndex : List (Text × Nat)
  liftWaits : Vector Nat 16
  pace : Vector (Vector Nat 8) 4
  mult : Vector (Vector Nat 3) 4
deriving DecidableEq, Repr

/-! ## Screens: declaration (R15) and session (chapter 8) -/

/-- A screen's declaration (section 1.7). -/
structure ScreenDecl where
  point : Nat
  cadence : Option (Fin 8)
  language : Nat
  idleTimeout : Nat
deriving DecidableEq, Repr

/-- Where a session stands (R126). -/
inductive SessionState where
  | dormant | idle | active | routePending | routeShown | alert
deriving DecidableEq, Repr

/-- A page of a navigation stack (R125). -/
inductive Page where
  | category (n : Nat)
  | listing (n : Nat)
  | search (t : Text)
  | levelMap (l : Int)
  | route (id : Nat)
deriving DecidableEq, Repr

/-- A navigation stack entry (R125). -/
structure PageEntry where
  page : Page
  language : Nat
  profile : Profile
deriving DecidableEq, Repr

/-- A running idle timer (R133): the timeout read when it started, and the timebase seconds that have come since. -/
structure IdleTimer where
  timeout : Nat
  seconds : Nat
deriving DecidableEq, Repr

/-- A screen's session (R124). The stack is held top first; `idle` is `none` while the idle timer is stopped. -/
structure Session where
  state : SessionState
  language : Nat
  profile : Profile
  stack : List PageEntry
  pending : Option Nat
  shown : Option Nat
  evac : Option Nat
  idle : Option IdleTimer
deriving DecidableEq, Repr

/-- A declared screen: its declaration and its one session (R124). -/
structure Screen where
  decl : ScreenDecl
  session : Session
deriving DecidableEq, Repr

/-! ## Route queue (chapter 3) -/

/-- The origin of an entry (R42). -/
inductive Origin where
  | screen (n : Fin 48)
  | node (n : Nat)
deriving DecidableEq, Repr

/-- The destination of an entry (R42). -/
inductive Dest where
  | listing (n : Nat)
  | node (n : Nat)
  | category (n : Nat)
  | exit
deriving DecidableEq, Repr

/-- The class of an entry (R42). -/
inductive EntryClass where
  | normal | evacuation
deriving DecidableEq, Repr

/-- A route entry (R42). Its attempt number is 1 while it is queued; the unit that works it holds the number. -/
structure Entry where
  id : Nat
  origin : Origin
  dest : Dest
  profile : Profile
  cls : EntryClass
deriving DecidableEq, Repr

/-- The route queue: entries head first, the route id counter (R41) and the outstanding count (R38). -/
structure RouteQueue where
  entries : List Entry
  nextId : Nat
  outstanding : Nat
deriving DecidableEq, Repr

/-! ## Route units (chapter 4) -/

/-- The outcomes of an entry (R46, R63, R65). -/
inductive RouteOutcome where
  | delivered | noRoute | noRouteUnsettled | noDestination | unresolvedMove | noExit
  | superseded | cancelled | withdrawn | evacCancelled | evacEnded | serviceStopped
deriving DecidableEq, Repr

/-- The flags of a route result, in the order of R71. -/
inductive RouteFlag where
  | atDestination | moved | destClosed | hoursUnknown | originClosed | estimated | truncated | unsettled
deriving DecidableEq, Repr

/-- A node of a destination set (R53): the listing it is held with, whether that listing was UNKNOWN at the start
event (R71), and whether it is an exit admitted by the closed-origin exception (R59). -/
structure Target where
  node : Nat
  listing : Option Nat
  unknown : Bool
  excepted : Bool
deriving DecidableEq, Repr

/-- The resolution flags of an attempt (R53). -/
structure ResFlags where
  moved : Bool := false
  destClosed : Bool := false
  hoursUnknown : Bool := false
deriving DecidableEq, Repr

/-- What a destination resolves to (R56 to R59): a failure with its outcome, or a destination set with its flags. -/
inductive Resolution where
  | failed (outcome : RouteOutcome)
  | targets (set : List Target) (flags : ResFlags)
deriving DecidableEq, Repr

/-- A usable segment as an attempt's start event saw it (R55 step 4): its cost, whether the closed-origin exception alone
made it usable (R29), and whether its zone was ESTIMATED. -/
structure Hop where
  seg : Nat
  src : Nat
  dst : Nat
  kind : SegKind
  length : Nat
  cost : Nat
  excepted : Bool
  estimated : Bool
deriving DecidableEq, Repr

/-- The attempt in a BUSY route unit (R53). `view` is the usability and cost of the map as taken at the start event. The
found path is formed at the completion event and leaves with the outcome, so it is not held here. -/
structure Attempt where
  entry : Entry
  number : Nat
  changed : Bool
  origin : Option Nat
  resolution : Resolution
  view : List Hop
deriving DecidableEq, Repr

/-- The two route units (R53): `none` is IDLE, with no entry, attempt number 0 and CHANGED clear. -/
structure Units where
  a : Option Attempt
  b : Option Attempt
deriving DecidableEq, Repr

/-! ## Gate block (chapter 5) -/

/-- The decoding state of a gate (R75). -/
inductive GateState where
  | clear | enterA | midA | leaveA | enterB | midB | leaveB | midUnknown | fault
deriving DecidableEq, Repr

/-- One beam of a gate: the input line's level, the debounced level (a change is maturing exactly while they differ,
R76), and the limit under which the stuck timer runs, or `none` while it is stopped (R83). -/
structure BeamInput where
  line : Bool
  debounced : Bool
  stuck : Option Nat
deriving DecidableEq, Repr

/-- A gate record (R75). A side that is `none` is OUTSIDE. -/
structure Gate where
  mode : GateMode
  src : Option (Fin 32)
  dst : Option (Fin 32)
  invert : Bool
  stuckLimit : Nat
  state : GateState
  inbound : Nat
  outbound : Nat
  fault : Bool
  a : BeamInput
  b : BeamInput
  recovery : Bool
deriving DecidableEq, Repr

/-! ## Census (chapter 6) -/

/-- The enable state of a zone (R93). -/
inductive EnableState where
  | enabled | disabling | disabled
deriving DecidableEq, Repr

/-- A zone record (R91). -/
structure Zone where
  enable : EnableState
  occupancy : Nat
  busyAt : Nat
  crowdedAt : Nat
  margin : Nat
  hold : Nat
  cls : ZoneClass
  below : Nat
  closed : Bool
  estimated : Bool
deriving DecidableEq, Repr

/-- A history record (R104), its three lists in zone order. -/
structure HistoryRecord where
  tick : Nat
  occupancy : List Nat
  cls : List ZoneClass
  estimated : List Bool
deriving DecidableEq, Repr

/-- The census (chapter 6): zones, period, tick counter, history ring oldest first, and the freeze flag. The period
timer always runs (R94), so it has no field. -/
structure Census where
  zones : Vector Zone 32
  period : Nat
  tick : Nat
  ring : List HistoryRecord
  frozen : Bool
deriving DecidableEq, Repr

/-! ## Watch unit (chapter 7) -/

/-- What a watch reads (R110). -/
inductive Subject where
  | occupancy (z : Fin 32)
  | cls (z : Fin 32)
  | gateFault (g : Fin 32)
  | demand (l : Nat)
  | failures
  | queueDepth
deriving DecidableEq, Repr

/-- What a watch does when it fires (R109). -/
inductive WatchAction where
  | report
  | pulse (line : Fin 4)
  | freeze
  | apply (z : Fin 32)
  | stage
deriving DecidableEq, Repr

/-- Where a watch stands (R109). -/
inductive WatchState where
  | disabled | waiting | armed | holdOff | fired | staged
deriving DecidableEq, Repr

/-- A watch record (R109). The hold-off timer runs exactly while the state is HOLDOFF, so it has no field. -/
structure Watch where
  configured : Bool
  subject : Option Subject
  cmp : Cmp
  threshold : Nat
  countBefore : Nat
  remaining : Nat
  chained : Bool
  action : Option WatchAction
  holdOff : Nat
  state : WatchState
  occurred : Bool
deriving DecidableEq, Repr

/-- The watch unit: the watches, the owner of each alert line's running pulse (`none`: timer stopped, line low, R116),
and the FAILURES counter (R111). -/
structure WatchUnit where
  watches : Vector Watch 8
  alerts : Vector (Option (Fin 8)) 4
  failures : Nat
deriving DecidableEq, Repr

/-! ## Evacuation control (chapter 9) -/

/-- The evacuation state (R141). -/
inductive EvacState where
  | inactive | active | pending
deriving DecidableEq, Repr

/-- What an EVAC notice names as its cause (R152). -/
inductive EvacCause where
  | line | host | start | stop | ended | lineLow
deriving DecidableEq, Repr

/-- Evacuation control (R141): state, due flags, the EVAC_IN line and its debounced level (R142), and EVAC_ACK. -/
structure EvacControl where
  state : EvacState
  due : Vector Bool 48
  line : Bool
  debounced : Bool
  ack : Bool
deriving DecidableEq, Repr

/-! ## Clock block (chapter 10) -/

/-- The value of a SET day clock (R153). -/
structure DayTime where
  weekday : Fin 7
  minute : Nat
  second : Nat
deriving DecidableEq, Repr

/-- RUN or HALT, of a cadence timer's run setting and state (R157). -/
inductive RunState where
  | run | halt
deriving DecidableEq, Repr

/-- A cadence timer (R157). `due` is set from the timebase second at which its count reaches the period until its
expiry is taken, or until an event taken first makes no expiry follow (R159, R161, R162). -/
structure CadenceTimer where
  period : Nat
  pages : Nat
  page : Nat
  count : Nat
  mode : CadenceMode
  role : CadenceRole
  setting : RunState
  state : RunState
  due : Bool
deriving DecidableEq, Repr

/-- The clock block: the day clock, `none` while UNSET, and the cadence timers. -/
structure ClockBlock where
  clock : Option DayTime
  timers : Vector CadenceTimer 8
deriving DecidableEq, Repr

/-! ## Host port (chapter 11) -/

/-- A received character: its code, and whether a parity or framing error came with it (R163). -/
structure RxChar where
  code : Code
  damaged : Bool
deriving DecidableEq, Repr

/-- The instruction of a leg: the kind of its segments, or CONTINUE (R69, R70). -/
inductive LegKind where
  | seg (k : SegKind)
  | continued
deriving DecidableEq, Repr

/-- A leg of a route (R69). -/
structure Leg where
  kind : LegKind
  endNode : Nat
  endLevel : Int
  distance : Nat
  count : Nat
deriving DecidableEq, Repr

/-- The fields of a ROUTE_RESULT notice (R72). -/
structure RouteResult where
  id : Nat
  screen : Option (Fin 48)
  cls : EntryClass
  outcome : RouteOutcome
  flags : List RouteFlag
  listing : Option Nat
  arrival : Option Nat
  cost : Nat
  eta : Nat
  generation : Nat
  legs : List Leg
deriving DecidableEq, Repr

/-- A notice (section 11.5), with the fields its owning rule names. -/
inductive Notice where
  | routeResult (r : RouteResult)
  | zoneClass (zone : Fin 32) (old new : ZoneClass) (tick : Nat)
  | gateFault (gate : Fin 32) (beam : Beam) (was : GateState)
  | gateClear (gate : Fin 32)
  | watch (index : Fin 8) (action : WatchAction) (value tick : Nat) (closedNow : Bool)
  | hours (changed : Nat) (weekday : Fin 7) (minute : Nat) (byClock : Bool) (generation : Nat)
  | evac (state : EvacState) (cause : EvacCause) (line : Bool) (generation : Nat)
  | cadence (timer : Fin 8) (page : Nat) (byMaster halted : Bool)
deriving DecidableEq, Repr

/-- The kind of a notice (section 11.5). -/
inductive NoticeKind where
  | routeResult | zoneClass | gateFault | gateClear | watch | hours | evac | cadence
deriving DecidableEq, Repr

/-- The notice mask (R170): `true` is queued, `false` is masked. -/
structure NoticeMask where
  routeResult : Bool
  zoneClass : Bool
  gateFault : Bool
  gateClear : Bool
  watch : Bool
  hours : Bool
  evac : Bool
  cadence : Bool
deriving DecidableEq, Repr

/-- A value of a reply or notice field (R166, section 11.9). An empty `nums` list is written empty, an empty `words` or
`legs` list is written NONE. -/
inductive Val where
  | num (n : Nat)
  | int (i : Int)
  | word (w : Kw)
  | key (k : Key)
  | text (t : Text)
  | nums (l : List Nat)
  | words (l : List Kw)
  | legs (l : List Leg)
deriving DecidableEq, Repr

/-- One line of a multi-line reply: the kind word of a notice line, and the fields. -/
structure ReplyLine where
  kind : Option Kw
  fields : List (Key × Val)
deriving DecidableEq, Repr

/-- What a block answers to a request: status word, fields, and the lines of a multi-line reply (R166). -/
structure Answer where
  status : Status
  fields : List (Key × Val)
  lines : Option (List ReplyLine)
deriving DecidableEq, Repr

/-- A reply: the tag of its request and the answer (R166). It opens OK exactly when its status word is OK. -/
structure Reply where
  tag : Nat
  answer : Answer
deriving DecidableEq, Repr

/-- The host port (chapter 11). `rx` is the line being assembled, the assembly timer running exactly while it holds a
character and no tail is dropped (R163); `dropping` is set while a discarded tail is dropped; `hand` is the
line in the command handler's hands and `input` the lines waiting (R165); `tx` holds the replies given to
the transmitter and not yet wholly sent, oldest first (R166). ATTN is not stored: it is high exactly while `notices`
is not empty (R168). -/
structure Port where
  rx : List RxChar
  dropping : Bool
  hand : Option Text
  input : List Text
  tx : List Reply
  frames : Nat
  notices : List Notice
  lost : Bool
  mask : NoticeMask
deriving DecidableEq, Repr

/-! ## The machine -/

/-- The whole state: the blocks of the scope file's section 2, the commands waiting, first in first out, and the model's own
counter of free values taken (log entry 10). -/
structure State where
  map : MapStore
  screens : Vector (Option Screen) 48
  queue : RouteQueue
  units : Units
  gates : Vector Gate 32
  census : Census
  watches : WatchUnit
  evac : EvacControl
  clock : ClockBlock
  port : Port
  free : Nat
  pending : List Instr
deriving DecidableEq, Repr

/-! ## Hard reset values -/

/-- A gate after a hard reset (R75, R76), its input lines low. -/
def Gate.reset : Gate :=
  { mode := .off, src := none, dst := none, invert := false, stuckLimit := 30, state := .clear, inbound := 0,
    outbound := 0, fault := false, a := ⟨false, false, none⟩, b := ⟨false, false, none⟩, recovery := false }

/-- A zone after a hard reset (R91). -/
def Zone.reset : Zone :=
  { enable := .disabled, occupancy := 0, busyAt := 100, crowdedAt := 200, margin := 10, hold := 3, cls := .clear,
    below := 0, closed := false, estimated := false }

/-- A watch after a hard reset (R109). -/
def Watch.reset : Watch :=
  { configured := false, subject := none, cmp := .atLeast, threshold := 0, countBefore := 0, remaining := 0,
    chained := false, action := none, holdOff := 10, state := .disabled, occurred := false }

/-- A cadence timer after a hard reset (R157). -/
def CadenceTimer.reset : CadenceTimer :=
  { period := 10, pages := 1, page := 0, count := 0, mode := .repeating, role := .plain, setting := .halt,
    state := .halt, due := false }

/-- The default pace table (R23): one row a profile, in the order of the kinds from WALK to SERVICE. -/
def paceDefaults : Vector (Vector Nat 8) 4 :=
  #v[#v[77, 83, 200, 125, 40, 50, 100, 0],
     #v[91, 100, 0, 0, 40, 59, 125, 0],
     #v[71, 77, 167, 63, 40, 33, 100, 0],
     #v[67, 71, 143, 167, 0, 83, 100, 77]]

/-- The default multiplier table (R25): one row a profile, in the order CLEAR, BUSY, CROWDED. -/
def multDefaults : Vector (Vector Nat 3) 4 :=
  #v[#v[16, 24, 40], #v[16, 28, 48], #v[16, 32, 64], #v[16, 20, 28]]

/-- The map store after a hard reset (sections 1.12 and 2.9). -/
def MapStore.reset : MapStore :=
  { mode := .load, generation := 0, nodes := [], segs := [], listings := [], nameIndex := [],
    liftWaits := Vector.replicate 16 0, pace := paceDefaults, mult := multDefaults }

/-- The host port after a hard reset (section 11.10). -/
def Port.reset : Port :=
  { rx := [], dropping := false, hand := none, input := [], tx := [], frames := 0, notices := [], lost := false,
    mask := { routeResult := true, zoneClass := true, gateFault := true, gateClear := true, watch := true,
              hours := true, evac := true, cadence := false } }

/-- The machine right after a hard reset, every input line low and no command waiting. -/
def State.reset : State :=
  { map := MapStore.reset
    screens := Vector.replicate 48 none
    queue := { entries := [], nextId := 0, outstanding := 0 }
    units := { a := none, b := none }
    gates := Vector.replicate 32 Gate.reset
    census := { zones := Vector.replicate 32 Zone.reset, period := 5, tick := 0, ring := [], frozen := false }
    watches := { watches := Vector.replicate 8 Watch.reset, alerts := Vector.replicate 4 none, failures := 0 }
    evac := { state := .inactive, due := Vector.replicate 48 false, line := false, debounced := false, ack := false }
    clock := { clock := none, timers := Vector.replicate 8 CadenceTimer.reset }
    port := Port.reset
    free := 0
    pending := [] }

/-! ## Outcomes other than a next state -/

/-- The WX-320 has no fault that stops it: every operation and event the manual lists ends in a state of the part, and a
request that cannot be taken is answered NO. Nobody raises one. -/
inductive Fault where
deriving DecidableEq, Repr

/-- The reasons a command has no meaning. -/
inductive Refusal where
  /-- Raised by `exec` alone, for a row of the opcode table that has no meaning yet; safe, since the model stops. No
  arm uses it: every row has its meaning. -/
  | notModelled (mnemonic : String)
deriving DecidableEq, Repr

end Sys2Proof.Machine
end

