-- ==== Sys2Proof/Machine/Operands.lean ====
section
/-!
DEFINITION. Operand forms and the arithmetic words of 00_scope section 6: ranges, clamping, saturation, wrapping and
division that rounds up; the positions of enumerated operands in tables; the words that replies and notices use.
-/

namespace Sys2Proof.Machine

/-! ## Arithmetic words (00_scope section 6.4) -/

/-- Increase by one, saturating at `top`. -/
def satInc (top n : Nat) : Nat := min top (n + 1)

/-- Increase by one, wrapping to 0 at `size`. -/
def wrapInc (size n : Nat) : Nat := (n + 1) % size

/-- The nearest value inside `lo` to `hi`. -/
def clampTo (lo hi n : Nat) : Nat := max lo (min hi n)

/-- Division that rounds up. -/
def ceilDiv (a b : Nat) : Nat := (a + (b - 1)) / b

/-- A flag as a number: 1 set, 0 clear. -/
def bit (b : Bool) : Nat := if b then 1 else 0

/-! ## Ranges of request fields -/

/-- A number as an index of a table of `n` records, when it is one. -/
def toFin? (n k : Nat) : Option (Fin n) := if h : k < n then some ⟨k, h⟩ else none

/-- A field left out, or in the range 0 to `top`. -/
def optLe (top : Nat) : Option Nat → Bool
  | none => true
  | some n => n ≤ top

/-- A field left out, its fixed word, or a number in the range 0 to `top`. -/
def optWordLe (top : Nat) : Option (Option Nat) → Bool
  | none => true
  | some none => true
  | some (some n) => n ≤ top

/-- A number from `lo` to `hi`. -/
def within (lo hi n : Nat) : Bool := lo ≤ n && n ≤ hi

/-- A field left out, or in the range `lo` to `hi`. -/
def optWithin (lo hi : Nat) : Option Nat → Bool
  | none => true
  | some n => within lo hi n

/-- A level from −4 to +11 (section 1.2). -/
def levelOk (l : Int) : Bool := -4 ≤ l && l ≤ 11

/-- A text of 1 to 32 characters (R3, R7). -/
def labelOk (t : Text) : Bool := within 1 32 t.length

/-- A flag field such as CLEAR=1: set when it is given as 1; 0 is the field left out (log entry 7). -/
def flagSet (f : Option Nat) : Bool := f == some 1

/-- A zone, group or timer index from a field already found in range. -/
def optFin (n : Nat) : Option Nat → Option (Fin n)
  | none => none
  | some k => toFin? n k

/-! ## Vectors -/

/-- Each element changed by a function of its index. -/
def mapFin {α β : Type} {n : Nat} (f : Fin n → α → β) (v : Vector α n) : Vector β n := Vector.ofFn fun i => f i v[i]

/-- One element changed. -/
def modifyAt {α : Type} {n : Nat} (v : Vector α n) (i : Fin n) (f : α → α) : Vector α n := v.set i (f v[i])

/-! ## Table positions -/

/-- The row of a profile in the pace and multiplier tables (R23, R25). -/
def profileRow : Profile → Fin 4
  | .standard => 0
  | .stepFree => 1
  | .quick => 2
  | .evacuation => 3

/-- The column of a segment kind in the pace table (R23). -/
def kindColumn : SegKind → Fin 8
  | .walk => 0
  | .ramp => 1
  | .stairs => 2
  | .escalator => 3
  | .lift => 4
  | .travelator => 5
  | .door => 6
  | .service => 7

/-- The column of a class in the multiplier table (R25); also the value a CLASS watch reads (R110). -/
def classColumn : ZoneClass → Fin 3
  | .clear => 0
  | .busy => 1
  | .crowded => 2

/-! ## Words of replies and notices -/

def nodeKindWord : NodeKind → Kw
  | .junction => .junction
  | .door => .door
  | .liftLanding => .liftLanding
  | .escalatorEnd => .escalatorEnd
  | .stairHead => .stairHead
  | .screenPoint => .screenPoint
  | .exit => .exit

def segKindWord : SegKind → Kw
  | .walk => .walk
  | .ramp => .ramp
  | .stairs => .stairs
  | .escalator => .escalator
  | .lift => .lift
  | .travelator => .travelator
  | .door => .door
  | .service => .service

def openStateWord : OpenState → Kw
  | .opened => .opened
  | .closed => .closed

def profileWord : Profile → Kw
  | .standard => .standard
  | .stepFree => .stepFree
  | .quick => .quick
  | .evacuation => .evacuation

def classWord : ZoneClass → Kw
  | .clear => .clear
  | .busy => .busy
  | .crowded => .crowded

def overrideKindWord : OverrideWord → Kw
  | .absent => .absent
  | .forcedOpen => .forcedOpen
  | .forcedClosed => .forcedClosed
  | .vacant => .vacant
  | .relocated => .relocated

def overrideWord : Override → Kw
  | .absent => .absent
  | .forcedOpen => .forcedOpen
  | .forcedClosed => .forcedClosed
  | .vacant => .vacant
  | .relocated _ => .relocated

def schedWord : SchedState → Kw
  | .opened => .opened
  | .closed => .closed
  | .unknown => .unknown

def effWord : EffState → Kw
  | .opened => .opened
  | .closed => .closed
  | .unknown => .unknown
  | .vacant => .vacant
  | .moved _ => .moved

def gateModeWord : GateMode → Kw
  | .off => .off
  | .twoWay => .twoWay
  | .oneWay => .oneWay
  | .pulse => .pulse

def gateStateWord : GateState → Kw
  | .clear => .clear
  | .enterA => .enterA
  | .midA => .midA
  | .leaveA => .leaveA
  | .enterB => .enterB
  | .midB => .midB
  | .leaveB => .leaveB
  | .midUnknown => .midUnknown
  | .fault => .fault

def beamWord : Beam → Kw
  | .a => .a
  | .b => .b

def unitWord : UnitName → Kw
  | .a => .a
  | .b => .b

def enableWord : EnableState → Kw
  | .enabled => .enabled
  | .disabling => .disabling
  | .disabled => .disabled

def subjectKindWord : SubjectWord → Kw
  | .occupancy => .occupancy
  | .cls => .cls
  | .gateFault => .gateFault
  | .demand => .demand
  | .failures => .failures
  | .queueDepth => .queueDepth

def subjectWord : Subject → Kw
  | .occupancy _ => .occupancy
  | .cls _ => .cls
  | .gateFault _ => .gateFault
  | .demand _ => .demand
  | .failures => .failures
  | .queueDepth => .queueDepth

def cmpWord : Cmp → Kw
  | .atLeast => .atLeast
  | .below => .below

def actionKindWord : ActionWord → Kw
  | .report => .report
  | .pulse => .pulse
  | .freeze => .freeze
  | .apply => .apply
  | .stage => .stage

def actionWord : WatchAction → Kw
  | .report => .report
  | .pulse _ => .pulse
  | .freeze => .freeze
  | .apply _ => .apply
  | .stage => .stage

def watchStateWord : WatchState → Kw
  | .disabled => .disabled
  | .waiting => .waiting
  | .armed => .armed
  | .holdOff => .holdoff
  | .fired => .fired
  | .staged => .staged

def pageKindWord : PageKind → Kw
  | .category => .category
  | .listing => .listing
  | .search => .search
  | .levelMap => .levelMap
  | .route => .route

def sessionStateWord : SessionState → Kw
  | .dormant => .dormant
  | .idle => .idle
  | .active => .active
  | .routePending => .routePending
  | .routeShown => .routeShown
  | .alert => .alert

def engineModeWord : EngineMode → Kw
  | .load => .load
  | .service => .service

def evacStateWord : EvacState → Kw
  | .inactive => .inactive
  | .active => .active
  | .pending => .pending

def evacCauseWord : EvacCause → Kw
  | .line => .line
  | .host => .host
  | .start => .start
  | .stop => .stop
  | .ended => .ended
  | .lineLow => .lineLow

def cadenceModeWord : CadenceMode → Kw
  | .repeating => .repeating
  | .once => .once

def cadenceRoleWord : CadenceRole → Kw
  | .plain => .plain
  | .master => .master
  | .follower => .follower

def runWord : RunState → Kw
  | .run => .run
  | .halt => .halt

def outcomeWord : RouteOutcome → Kw
  | .delivered => .delivered
  | .noRoute => .noRoute
  | .noRouteUnsettled => .noRouteUnsettled
  | .noDestination => .noDestination
  | .unresolvedMove => .unresolvedMove
  | .noExit => .noExit
  | .superseded => .superseded
  | .cancelled => .cancelled
  | .withdrawn => .withdrawn
  | .evacCancelled => .evacCancelled
  | .evacEnded => .evacEnded
  | .serviceStopped => .serviceStopped

def routeFlagWord : RouteFlag → Kw
  | .atDestination => .atDestination
  | .moved => .moved
  | .destClosed => .destClosed
  | .hoursUnknown => .hoursUnknown
  | .originClosed => .originClosed
  | .estimated => .estimated
  | .truncated => .truncated
  | .unsettled => .unsettled

def entryClassWord : EntryClass → Kw
  | .normal => .normal
  | .evacuation => .evacuation

def legKindWord : LegKind → Kw
  | .seg k => segKindWord k
  | .continued => .continue

def noticeKindWord : NoticeKind → Kw
  | .routeResult => .routeResult
  | .zoneClass => .zoneClass
  | .gateFault => .gateFault
  | .gateClear => .gateClear
  | .watch => .watch
  | .hours => .hours
  | .evac => .evac
  | .cadence => .cadence

/-! ## Field values -/

/-- A number, or NONE when it is absent. -/
def numOrNone : Option Nat → Val
  | none => .word .absent
  | some n => .num n

/-- A side of a gate: a zone, or OUTSIDE (R75). -/
def sideVal : Option (Fin 32) → Val
  | none => .word .outside
  | some z => .num z

/-- An index, or NONE when it is absent. -/
def finOrNone {n : Nat} : Option (Fin n) → Val
  | none => .word .absent
  | some i => .num i

/-- A flag, 1 or 0. -/
def flagVal (b : Bool) : Val := .num (bit b)

/-- A day entry as a LISTING put gives it (R13). -/
def dayVal : DayEntry → Val
  | .closed => .word .closed
  | .window o c => .nums [o, c]

end Sys2Proof.Machine
end

