-- ==== Sys2Proof/Machine/Spelling.lean ====
section
/-!
DEFINITION. How the host port spells what it sends (R166, section 11.9): the names, words, verbs and status words, numbers,
leg items, replies and notices as lines of characters.
-/

namespace Sys2Proof.Machine

/-- A field name as it stands in a line. -/
def keyText : Key → Text
  | .index => ascii "INDEX"
  | .kind => ascii "KIND"
  | .level => ascii "LEVEL"
  | .zone => ascii "ZONE"
  | .label => ascii "LABEL"
  | .remove => ascii "REMOVE"
  | .read => ascii "READ"
  | .fromSide => ascii "FROM"
  | .toSide => ascii "TO"
  | .length => ascii "LENGTH"
  | .group => ascii "GROUP"
  | .state => ascii "STATE"
  | .trim => ascii "TRIM"
  | .wait => ascii "WAIT"
  | .name => ascii "NAME"
  | .category => ascii "CATEGORY"
  | .doors => ascii "DOORS"
  | .d0 => ascii "D0"
  | .d1 => ascii "D1"
  | .d2 => ascii "D2"
  | .d3 => ascii "D3"
  | .d4 => ascii "D4"
  | .d5 => ascii "D5"
  | .d6 => ascii "D6"
  | .override => ascii "OVERRIDE"
  | .target => ascii "TARGET"
  | .listing => ascii "LISTING"
  | .value => ascii "VALUE"
  | .startsWith => ascii "PREFIX"
  | .start => ascii "START"
  | .screen => ascii "SCREEN"
  | .point => ascii "POINT"
  | .cadence => ascii "CADENCE"
  | .language => ascii "LANGUAGE"
  | .idle => ascii "IDLE"
  | .clear => ascii "CLEAR"
  | .profile => ascii "PROFILE"
  | .cls => ascii "CLASS"
  | .exit => ascii "EXIT"
  | .route => ascii "ROUTE"
  | .gate => ascii "GATE"
  | .mode => ascii "MODE"
  | .invert => ascii "INVERT"
  | .stuck => ascii "STUCK"
  | .enable => ascii "ENABLE"
  | .busy => ascii "BUSY"
  | .crowded => ascii "CROWDED"
  | .margin => ascii "MARGIN"
  | .hold => ascii "HOLD"
  | .period => ascii "PERIOD"
  | .n => ascii "N"
  | .next => ascii "NEXT"
  | .watch => ascii "WATCH"
  | .subject => ascii "SUBJECT"
  | .cmp => ascii "CMP"
  | .threshold => ascii "THRESHOLD"
  | .action => ascii "ACTION"
  | .count => ascii "COUNT"
  | .chained => ascii "CHAINED"
  | .line => ascii "LINE"
  | .holdoff => ascii "HOLDOFF"
  | .page => ascii "PAGE"
  | .text => ascii "TEXT"
  | .weekday => ascii "WEEKDAY"
  | .minute => ascii "MINUTE"
  | .second => ascii "SECOND"
  | .timer => ascii "TIMER"
  | .pages => ascii "PAGES"
  | .role => ascii "ROLE"
  | .restart => ascii "RESTART"
  | .routeResult => ascii "ROUTE_RESULT"
  | .zoneClass => ascii "ZONE_CLASS"
  | .gateFault => ascii "GATE_FAULT"
  | .gateClear => ascii "GATE_CLEAR"
  | .hours => ascii "HOURS"
  | .evac => ascii "EVAC"
  | .gen => ascii "GEN"
  | .clamped => ascii "CLAMPED"
  | .schedule => ascii "SCHEDULE"
  | .sched => ascii "SCHED"
  | .demand => ascii "DEMAND"
  | .found => ascii "FOUND"
  | .more => ascii "MORE"
  | .check => ascii "CHECK"
  | .field => ascii "FIELD"
  | .limit => ascii "LIMIT"
  | .superseded => ascii "SUPERSEDED"
  | .was => ascii "WAS"
  | .levels => ascii "LEVELS"
  | .inbound => ascii "IN"
  | .outbound => ascii "OUT"
  | .fault => ascii "FAULT"
  | .occ => ascii "OCC"
  | .below => ascii "BELOW"
  | .closed => ascii "CLOSED"
  | .est => ascii "EST"
  | .tick => ascii "TICK"
  | .changed => ascii "CHANGED"
  | .frozen => ascii "FROZEN"
  | .alert => ascii "ALERT"
  | .configured => ascii "CONFIGURED"
  | .remaining => ascii "REMAINING"
  | .occurred => ascii "OCCURRED"
  | .depth => ascii "DEPTH"
  | .top => ascii "TOP"
  | .topval => ascii "TOPVAL"
  | .trimmed => ascii "TRIMMED"
  | .withdrawn => ascii "WITHDRAWN"
  | .lang => ascii "LANG"
  | .pending => ascii "PENDING"
  | .shown => ascii "SHOWN"
  | .idleLeft => ascii "IDLE_LEFT"
  | .due => ascii "DUE"
  | .clock => ascii "CLOCK"
  | .run => ascii "RUN"
  | .values => ascii "VALUES"
  | .family => ascii "FAMILY"
  | .part => ascii "PART"
  | .rev => ascii "REV"
  | .queued => ascii "QUEUED"
  | .outstanding => ascii "OUTSTANDING"
  | .notices => ascii "NOTICES"
  | .lost => ascii "LOST"
  | .frames => ascii "FRAMES"
  | .failures => ascii "FAILURES"
  | .old => ascii "OLD"
  | .new => ascii "NEW"
  | .beam => ascii "BEAM"
  | .cause => ascii "CAUSE"
  | .halted => ascii "HALTED"
  | .closedNow => ascii "CLOSED_NOW"
  | .outcome => ascii "OUTCOME"
  | .flags => ascii "FLAGS"
  | .arrival => ascii "ARRIVAL"
  | .cost => ascii "COST"
  | .eta => ascii "ETA"
  | .legs => ascii "LEGS"

/-- A word as it stands in a line. -/
def kwText : Kw → Text
  | .junction => ascii "JUNCTION"
  | .door => ascii "DOOR"
  | .liftLanding => ascii "LIFT_LANDING"
  | .escalatorEnd => ascii "ESCALATOR_END"
  | .stairHead => ascii "STAIR_HEAD"
  | .screenPoint => ascii "SCREEN_POINT"
  | .exit => ascii "EXIT"
  | .walk => ascii "WALK"
  | .ramp => ascii "RAMP"
  | .stairs => ascii "STAIRS"
  | .escalator => ascii "ESCALATOR"
  | .lift => ascii "LIFT"
  | .travelator => ascii "TRAVELATOR"
  | .service => ascii "SERVICE"
  | .opened => ascii "OPEN"
  | .closed => ascii "CLOSED"
  | .absent => ascii "NONE"
  | .forcedOpen => ascii "FORCED_OPEN"
  | .forcedClosed => ascii "FORCED_CLOSED"
  | .vacant => ascii "VACANT"
  | .relocated => ascii "RELOCATED"
  | .unknown => ascii "UNKNOWN"
  | .moved => ascii "MOVED"
  | .standard => ascii "STANDARD"
  | .stepFree => ascii "STEP_FREE"
  | .quick => ascii "QUICK"
  | .evacuation => ascii "EVACUATION"
  | .clear => ascii "CLEAR"
  | .busy => ascii "BUSY"
  | .crowded => ascii "CROWDED"
  | .off => ascii "OFF"
  | .twoWay => ascii "TWO_WAY"
  | .oneWay => ascii "ONE_WAY"
  | .pulse => ascii "PULSE"
  | .outside => ascii "OUTSIDE"
  | .enterA => ascii "ENTER_A"
  | .midA => ascii "MID_A"
  | .leaveA => ascii "LEAVE_A"
  | .enterB => ascii "ENTER_B"
  | .midB => ascii "MID_B"
  | .leaveB => ascii "LEAVE_B"
  | .midUnknown => ascii "MID_UNKNOWN"
  | .fault => ascii "FAULT"
  | .enabled => ascii "ENABLED"
  | .disabling => ascii "DISABLING"
  | .disabled => ascii "DISABLED"
  | .occupancy => ascii "OCCUPANCY"
  | .cls => ascii "CLASS"
  | .gateFault => ascii "GATE_FAULT"
  | .demand => ascii "DEMAND"
  | .failures => ascii "FAILURES"
  | .queueDepth => ascii "QUEUE_DEPTH"
  | .atLeast => ascii "AT_LEAST"
  | .below => ascii "BELOW"
  | .report => ascii "REPORT"
  | .freeze => ascii "FREEZE"
  | .apply => ascii "APPLY"
  | .stage => ascii "STAGE"
  | .waiting => ascii "WAITING"
  | .armed => ascii "ARMED"
  | .holdoff => ascii "HOLDOFF"
  | .fired => ascii "FIRED"
  | .staged => ascii "STAGED"
  | .category => ascii "CATEGORY"
  | .listing => ascii "LISTING"
  | .search => ascii "SEARCH"
  | .levelMap => ascii "LEVEL_MAP"
  | .route => ascii "ROUTE"
  | .home => ascii "HOME"
  | .dormant => ascii "DORMANT"
  | .idle => ascii "IDLE"
  | .active => ascii "ACTIVE"
  | .routePending => ascii "ROUTE_PENDING"
  | .routeShown => ascii "ROUTE_SHOWN"
  | .alert => ascii "ALERT"
  | .load => ascii "LOAD"
  | .inactive => ascii "INACTIVE"
  | .pending => ascii "PENDING"
  | .repeating => ascii "REPEAT"
  | .once => ascii "ONCE"
  | .plain => ascii "PLAIN"
  | .master => ascii "MASTER"
  | .follower => ascii "FOLLOWER"
  | .run => ascii "RUN"
  | .halt => ascii "HALT"
  | .line => ascii "LINE"
  | .host => ascii "HOST"
  | .start => ascii "START"
  | .stop => ascii "STOP"
  | .ended => ascii "END"
  | .lineLow => ascii "LINE_LOW"
  | .minute => ascii "MINUTE"
  | .clock => ascii "CLOCK"
  | .period => ascii "PERIOD"
  | .isSet => ascii "SET"
  | .isUnset => ascii "UNSET"
  | .delivered => ascii "DELIVERED"
  | .noRoute => ascii "NO_ROUTE"
  | .noRouteUnsettled => ascii "NO_ROUTE_UNSETTLED"
  | .noDestination => ascii "NO_DESTINATION"
  | .unresolvedMove => ascii "UNRESOLVED_MOVE"
  | .noExit => ascii "NO_EXIT"
  | .superseded => ascii "SUPERSEDED"
  | .cancelled => ascii "CANCELLED"
  | .withdrawn => ascii "WITHDRAWN"
  | .evacCancelled => ascii "EVAC_CANCELLED"
  | .evacEnded => ascii "EVAC_ENDED"
  | .serviceStopped => ascii "SERVICE_STOPPED"
  | .atDestination => ascii "AT_DESTINATION"
  | .destClosed => ascii "DEST_CLOSED"
  | .hoursUnknown => ascii "HOURS_UNKNOWN"
  | .originClosed => ascii "ORIGIN_CLOSED"
  | .estimated => ascii "ESTIMATED"
  | .truncated => ascii "TRUNCATED"
  | .unsettled => ascii "UNSETTLED"
  | .normal => ascii "NORMAL"
  | .a => ascii "A"
  | .b => ascii "B"
  | .queued => ascii "QUEUED"
  | .outcomes => ascii "OUTCOMES"
  | .queue => ascii "QUEUE"
  | .continue => ascii "CONTINUE"
  | .segmentEndpoint => ascii "SEGMENT_ENDPOINT"
  | .liftGroup => ascii "LIFT_GROUP"
  | .doorKind => ascii "DOOR_KIND"
  | .relocationTarget => ascii "RELOCATION_TARGET"
  | .uviaro => ascii "UVIARO"
  | .wx320 => ascii "WX-320"
  | .routeResult => ascii "ROUTE_RESULT"
  | .zoneClass => ascii "ZONE_CLASS"
  | .gateClear => ascii "GATE_CLEAR"
  | .watch => ascii "WATCH"
  | .hours => ascii "HOURS"
  | .evac => ascii "EVAC"
  | .cadence => ascii "CADENCE"

/-- A verb as the catalogue writes it (section 11.8). -/
def verbText : Verb → Text
  | .status => ascii "STATUS"
  | .fetch => ascii "FETCH"
  | .mask => ascii "MASK"
  | .start => ascii "START"
  | .stop => ascii "STOP"
  | .mapClear => ascii "MAP-CLEAR"
  | .node => ascii "NODE"
  | .seg => ascii "SEG"
  | .segState => ascii "SEG-STATE"
  | .segTrim => ascii "SEG-TRIM"
  | .liftWait => ascii "LIFT-WAIT"
  | .listing => ascii "LISTING"
  | .override => ascii "OVERRIDE"
  | .search => ascii "SEARCH"
  | .lookup => ascii "LOOKUP"
  | .demand => ascii "DEMAND"
  | .screen => ascii "SCREEN"
  | .pace => ascii "PACE"
  | .mult => ascii "MULT"
  | .route => ascii "ROUTE"
  | .routeCancel => ascii "ROUTE-CANCEL"
  | .gate => ascii "GATE"
  | .gateRead => ascii "GATE-READ"
  | .zone => ascii "ZONE"
  | .censusPeriod => ascii "CENSUS-PERIOD"
  | .zoneClose => ascii "ZONE-CLOSE"
  | .zoneOpen => ascii "ZONE-OPEN"
  | .occupancy => ascii "OCCUPANCY"
  | .censusZero => ascii "CENSUS-ZERO"
  | .historyResume => ascii "HISTORY-RESUME"
  | .history => ascii "HISTORY"
  | .zoneRead => ascii "ZONE-READ"
  | .watch => ascii "WATCH"
  | .watchArm => ascii "WATCH-ARM"
  | .watchOff => ascii "WATCH-OFF"
  | .watchRead => ascii "WATCH-READ"
  | .nav => ascii "NAV"
  | .back => ascii "BACK"
  | .backRestore => ascii "BACK-RESTORE"
  | .home => ascii "HOME"
  | .prefs => ascii "PREFS"
  | .tap => ascii "TAP"
  | .screenGet => ascii "SCREEN-GET"
  | .evac => ascii "EVAC"
  | .evacEnd => ascii "EVAC-END"
  | .clock => ascii "CLOCK"
  | .clockRead => ascii "CLOCK-READ"
  | .cadence => ascii "CADENCE"
  | .cadenceRun => ascii "CADENCE-RUN"
  | .cadenceHalt => ascii "CADENCE-HALT"

/-- A status word (R166). -/
def statusText : Status → Text
  | .ok => ascii "OK"
  | .busy => ascii "BUSY"
  | .unknownVerb => ascii "UNKNOWN_VERB"
  | .badField => ascii "BAD_FIELD"
  | .outOfRange => ascii "OUT_OF_RANGE"
  | .wrongMode => ascii "WRONG_MODE"
  | .notFound => ascii "NOT_FOUND"
  | .queueFull => ascii "QUEUE_FULL"
  | .evacActive => ascii "EVAC_ACTIVE"
  | .evacLine => ascii "EVAC_LINE"
  | .notActive => ascii "NOT_ACTIVE"
  | .mapInvalid => ascii "MAP_INVALID"
  | .conflict => ascii "CONFLICT"

/-- The verbs of the catalogue, in its order (section 11.8). -/
def allVerbs : List Verb :=
  [.status, .fetch, .mask, .start, .stop, .mapClear, .node, .seg, .segState, .segTrim, .liftWait, .listing,
   .override, .search, .lookup, .demand, .screen, .pace, .mult, .route, .routeCancel, .gate, .gateRead,
   .zone, .censusPeriod, .zoneClose, .zoneOpen, .occupancy, .censusZero, .historyResume, .history, .zoneRead,
   .watch, .watchArm, .watchOff, .watchRead, .nav, .back, .backRestore, .home, .prefs, .tap, .screenGet,
   .evac, .evacEnd, .clock, .clockRead, .cadence, .cadenceRun, .cadenceHalt]

/-! ## Values -/

/-- The character of a decimal digit. -/
def digitChar (d : Nat) : Code := BitVec.ofNat 8 (48 + d)

/-- The decimal digits of a number before those already formed; at most `fuel` of them. -/
def decimalGo : Nat → Nat → Text → Text
  | 0, _, acc => acc
  | fuel + 1, n, acc => if n < 10 then digitChar n :: acc else decimalGo fuel (n / 10) (digitChar (n % 10) :: acc)

/-- A number in decimal without separators (R166). -/
def decimal (n : Nat) : Text := decimalGo (n + 1) n []

/-- An integer in decimal, with a minus sign below 0 (R166). -/
def decimalInt (i : Int) : Text := if i < 0 then ascii "-" ++ decimal i.natAbs else decimal i.natAbs

/-- Texts joined by a separator. -/
def joinWith (sep : Text) : List Text → Text
  | [] => []
  | [t] => t
  | t :: rest => t ++ sep ++ joinWith sep rest

/-- A leg item: five values joined by a slash (section 11.9). -/
def legText (l : Leg) : Text :=
  joinWith (ascii "/")
    [kwText (legKindWord l.kind), decimal l.endNode, decimalInt l.endLevel, decimal l.distance, decimal l.count]

/-- A value of a field (R166): a text is quoted, a list is separated by commas, an empty list of flags or legs is NONE. -/
def valText : Val → Text
  | .num n => decimal n
  | .int i => decimalInt i
  | .word w => kwText w
  | .key k => keyText k
  | .text t => ascii "\"" ++ t ++ ascii "\""
  | .nums l => joinWith (ascii ",") (l.map decimal)
  | .words l => if l.isEmpty then kwText .absent else joinWith (ascii ",") (l.map kwText)
  | .legs l => if l.isEmpty then kwText .absent else joinWith (ascii ",") (l.map legText)

/-- A field NAME=VALUE. -/
def fieldText (f : Key × Val) : Text := keyText f.1 ++ ascii "=" ++ valText f.2

/-- A line of a multi-line reply: an asterisk, then the kind word of a notice, then the fields (R166, R169). -/
def replyLineText (l : ReplyLine) : Text :=
  joinWith (ascii " ") (ascii "*" :: (match l.kind with | none => [] | some w => [kwText w]) ++ l.fields.map fieldText)

/-- A reply's first line: OK or NO, the tag, the status word, `lines=n` for a multi-line reply, and the fields (R166). The tag is
written as the number it is, so that one sent as 0417 comes back as 417 (DESIGN CHOICE, log entry 33). -/
def firstLineText (r : Reply) : Text :=
  joinWith (ascii " ")
    ([ascii (if r.answer.status = .ok then "OK" else "NO"), decimal r.tag, statusText r.answer.status]
      ++ (match r.answer.lines with | none => [] | some ls => [ascii "lines=" ++ decimal ls.length])
      ++ r.answer.fields.map fieldText)

/-- A reply as the lines it is transmitted in (R166). -/
def replyText (r : Reply) : List Text :=
  firstLineText r :: (match r.answer.lines with | none => [] | some ls => ls.map replyLineText)

/-! ## Notices as lines of a FETCH reply (R169) -/

/-- A field that is left out when absent. -/
def optField (k : Key) : Option Nat → List (Key × Val)
  | none => []
  | some n => [(k, .num n)]

/-- The fields of a ROUTE_RESULT notice (R72, section 11.9). -/
def routeResultFields (r : RouteResult) : List (Key × Val) :=
  [(.route, .num r.id)] ++ optField .screen (r.screen.map Fin.val)
    ++ [(.cls, .word (entryClassWord r.cls)), (.outcome, .word (outcomeWord r.outcome)),
        (.flags, .words (r.flags.map routeFlagWord))]
    ++ optField .listing r.listing ++ optField .arrival r.arrival
    ++ [(.cost, .num r.cost), (.eta, .num r.eta), (.gen, .num r.generation), (.legs, .legs r.legs)]

/-- The fields of a WATCH notice past its TICK: the line of a PULSE, the zone and CLOSED_NOW of an APPLY (R123). -/
def watchActionFields (closedNow : Bool) : WatchAction → List (Key × Val)
  | .pulse l => [(.line, .num l)]
  | .apply z => [(.zone, .num z), (.closedNow, flagVal closedNow)]
  | .report => []
  | .freeze => []
  | .stage => []

/-- The fields of a notice, by its owning rule (R72, R84, R86, R95, R123, R152, R156, R158). -/
def noticeFields : Notice → List (Key × Val)
  | .routeResult r => routeResultFields r
  | .zoneClass z o n t =>
    [(.zone, .num z), (.old, .word (classWord o)), (.new, .word (classWord n)), (.tick, .num t)]
  | .gateFault g beam was =>
    [(.gate, .num g), (.beam, .word (beamWord beam)), (.was, .word (gateStateWord was))]
  | .gateClear g => [(.gate, .num g)]
  | .watch i a v t c =>
    [(.watch, .num i), (.action, .word (actionWord a)), (.value, .num v), (.tick, .num t)] ++ watchActionFields c a
  | .hours c d m k g =>
    [(.changed, .num c), (.weekday, .num d), (.minute, .num m),
     (.cause, .word (if k then .clock else .minute)), (.gen, .num g)]
  | .evac st c l g =>
    [(.state, .word (evacStateWord st)), (.cause, .word (evacCauseWord c)), (.line, flagVal l), (.gen, .num g)]
  | .cadence t p m h =>
    [(.timer, .num t), (.page, .num p), (.cause, .word (if m then .master else .period)), (.halted, flagVal h)]

/-- The kind of a notice. -/
def noticeKindOf : Notice → NoticeKind
  | .routeResult .. => .routeResult
  | .zoneClass .. => .zoneClass
  | .gateFault .. => .gateFault
  | .gateClear .. => .gateClear
  | .watch .. => .watch
  | .hours .. => .hours
  | .evac .. => .evac
  | .cadence .. => .cadence

/-- A notice as a line of a FETCH reply (R169). -/
def noticeLine (n : Notice) : ReplyLine := ⟨some (noticeKindWord (noticeKindOf n)), noticeFields n⟩

end Sys2Proof.Machine
end

