-- ==== Sys2Proof/Machine/Ops.lean ====
section
/-!
DEFINITION. The shared operations over the blocks: keyed tables, the notice queue and the transmitter, the map
generation's bump, the effective state of a listing, and the readings that several blocks take.
-/

namespace Sys2Proof.Machine

/-! ## Keyed tables -/

/-- The record at index `k`, when it is defined. -/
def Table.get {α : Type} : Table α → Nat → Option α
  | [], _ => none
  | (i, v) :: t, k => if i = k then some v else Table.get t k

/-- Define or replace the record at index `k`, keeping the keys rising. -/
def Table.put {α : Type} : Table α → Nat → α → Table α
  | [], k, x => [(k, x)]
  | (i, v) :: t, k, x =>
    if k < i then (k, x) :: (i, v) :: t
    else if k = i then (k, x) :: t
    else (i, v) :: Table.put t k x

/-- Make the record at index `k` undefined. -/
def Table.erase {α : Type} (t : Table α) (k : Nat) : Table α := t.filter fun p => p.1 != k

/-- The one form of a table: keys strictly rising. -/
abbrev Table.wf {α : Type} (t : Table α) : Prop := t.Pairwise fun p q => p.1 < q.1

/-! ## The part's outputs and readings that are formed, not stored -/

/-- The engine mode is SERVICE. -/
def State.inService (s : State) : Bool := s.map.mode == .service

/-- Evacuation is ACTIVE. -/
def State.evacActive (s : State) : Bool := s.evac.state == .active

/-- ATTN is high while the notice queue holds at least one notice (R168). -/
def State.attn (s : State) : Bool := !s.port.notices.isEmpty

/-- An alert line is high while its pulse timer runs (R116). -/
def State.alertHigh (s : State) (l : Fin 4) : Bool := s.watches.alerts[l].isSome

/-- The map store's record of a zone's census values (R27). -/
def State.zone (s : State) (z : Fin 32) : Zone := s.census.zones[z]

/-- The session of a screen, when the screen is declared (R124). -/
def State.screen? (s : State) (n : Fin 48) : Option Screen := s.screens[n]

/-- The attempt in a unit, when the unit is BUSY. -/
def Units.get (u : Units) : UnitName → Option Attempt
  | .a => u.a
  | .b => u.b

/-- Put an attempt into a unit, or make it IDLE. -/
def Units.set (u : Units) : UnitName → Option Attempt → Units
  | .a, x => { u with a := x }
  | .b, x => { u with b := x }

/-- The entries in the units, A first. -/
def Units.entries (u : Units) : List Entry := (u.a.toList ++ u.b.toList).map Attempt.entry

/-- The number of BUSY units (R53). -/
def Units.busy (u : Units) : Nat := u.entries.length

/-- The screen of an origin, when it is one. -/
def Origin.screen? : Origin → Option (Fin 48)
  | .screen n => some n
  | .node _ => none

/-- An entry of the class with that screen as its origin. -/
def Entry.ofScreen (c : EntryClass) (n : Fin 48) (e : Entry) : Bool := e.cls == c && e.origin.screen? == some n

/-! ## Updates of one block -/

def State.withMap (s : State) (m : MapStore) : State := { s with map := m }
def State.withScreens (s : State) (v : Vector (Option Screen) 48) : State := { s with screens := v }
def State.withQueue (s : State) (q : RouteQueue) : State := { s with queue := q }
def State.withUnits (s : State) (u : Units) : State := { s with units := u }
def State.withGates (s : State) (v : Vector Gate 32) : State := { s with gates := v }
def State.withCensus (s : State) (c : Census) : State := { s with census := c }
def State.withWatches (s : State) (w : WatchUnit) : State := { s with watches := w }
def State.withEvac (s : State) (e : EvacControl) : State := { s with evac := e }
def State.withClock (s : State) (c : ClockBlock) : State := { s with clock := c }
def State.withPort (s : State) (p : Port) : State := { s with port := p }

/-- Change one zone record. -/
def State.modifyZone (s : State) (z : Fin 32) (f : Zone → Zone) : State :=
  s.withCensus { s.census with zones := modifyAt s.census.zones z f }

/-- Change one gate record. -/
def State.modifyGate (s : State) (g : Fin 32) (f : Gate → Gate) : State := s.withGates (modifyAt s.gates g f)

/-- Change one watch record. -/
def State.modifyWatch (s : State) (w : Fin 8) (f : Watch → Watch) : State :=
  s.withWatches { s.watches with watches := modifyAt s.watches.watches w f }

/-- Change one cadence timer. -/
def State.modifyTimer (s : State) (t : Fin 8) (f : CadenceTimer → CadenceTimer) : State :=
  s.withClock { s.clock with timers := modifyAt s.clock.timers t f }

/-- Change the session of a screen; an undeclared screen has none. -/
def State.modifySession (s : State) (n : Fin 48) (f : ScreenDecl → Session → Session) : State :=
  s.withScreens (modifyAt s.screens n fun o => o.map fun c => { c with session := f c.decl c.session })

/-- Change the session of every declared screen. -/
def State.mapSessions (s : State) (f : ScreenDecl → Session → Session) : State :=
  s.withScreens (mapFin (fun _ o => o.map fun c => { c with session := f c.decl c.session }) s.screens)

/-- Set the due flag of a screen. -/
def State.setDue (s : State) (n : Fin 48) (b : Bool) : State :=
  s.withEvac { s.evac with due := s.evac.due.set n b }

/-! ## The notice queue (section 11.5) -/

/-- A ROUTE_RESULT notice. -/
def Notice.isResult (n : Notice) : Bool := noticeKindOf n == .routeResult

/-- The route id of a ROUTE_RESULT notice. -/
def Notice.resultId? : Notice → Option Nat
  | .routeResult r => some r.id
  | _ => none

/-- Whether a kind is queued: ROUTE_RESULT always is (R66, R170). -/
def NoticeMask.queues (m : NoticeMask) : NoticeKind → Bool
  | .routeResult => true
  | .zoneClass => m.zoneClass
  | .gateFault => m.gateFault
  | .gateClear => m.gateClear
  | .watch => m.watch
  | .hours => m.hours
  | .evac => m.evac
  | .cadence => m.cadence

/-- The notices without the oldest whose kind is not ROUTE_RESULT (R167 step 3). -/
def shedOldest : List Notice → List Notice
  | [] => []
  | n :: rest => if n.isResult then n :: shedOldest rest else rest

/-- A block posts a notice (R167). -/
def Port.post (p : Port) (n : Notice) : Port :=
  if p.mask.queues (noticeKindOf n) then
    if p.notices.length < 32 then { p with notices := p.notices ++ [n] }
    else { p with notices := shedOldest p.notices ++ [n], lost := true }
  else p

/-- A block posts a notice (R167). -/
def State.post (s : State) (n : Notice) : State := s.withPort (s.port.post n)

/-- Post several notices in order (R167). -/
def State.postAll (s : State) (l : List Notice) : State := l.foldl State.post s

/-- One more line damaged or unreadable: the frame error count, saturating at 65,535 (R163, R164). -/
def Port.countFrame (p : Port) : Port := { p with frames := satInc 65535 p.frames }

/-- Give a reply to the transmitter (R165, R166). -/
def Port.give (p : Port) (r : Reply) : Port := { p with tx := p.tx ++ [r] }

/-! ## Answers -/

/-- An accepted request's answer on one line. -/
def Answer.ok (fields : List (Key × Val)) : Answer := ⟨.ok, fields, none⟩

/-- An accepted request's multi-line answer. -/
def Answer.okLines (fields : List (Key × Val)) (lines : List ReplyLine) : Answer := ⟨.ok, fields, some lines⟩

/-- A refusal with a status word and no field. -/
def Answer.no (status : Status) : Answer := ⟨status, [], none⟩

/-- A refusal with the fields its rule names. -/
def Answer.noWith (status : Status) (fields : List (Key × Val)) : Answer := ⟨status, fields, none⟩

/-- The first check that fails gives the refusal (R2, R37, R112, R127, R145). -/
def firstFailing : List (Bool × Answer) → Option Answer
  | [] => none
  | (holds, a) :: rest => if holds then firstFailing rest else some a

/-- A request that passes its checks is taken; one that does not is refused and changes no state (00_scope section 6.4). -/
def checked (checks : List (Bool × Answer)) (s : State) (take : State → State × Answer) : State × Answer :=
  match firstFailing checks with
  | some a => (s, a)
  | none => take s

/-! ## The map generation (section 1.11) -/

/-- The next value of the map generation: a count to 4,294,967,295 that wraps to 0 (R20). -/
def nextGeneration (g : Nat) : Nat := wrapInc 4294967296 g

/-- A BUSY unit's attempt with CHANGED set (R22). -/
def Attempt.mark (a : Attempt) : Attempt := { a with changed := true }

/-- The screen has an EVACUATION entry waiting in the route queue (R22). -/
def State.evacEntryQueued (s : State) (n : Fin 48) : Bool := s.queue.entries.any (Entry.ofScreen .evacuation n)

/-- The screen has an EVACUATION entry in a route unit. -/
def State.evacEntryInUnit (s : State) (n : Fin 48) : Bool := s.units.entries.any (Entry.ofScreen .evacuation n)

/-- The due flags after a bump while evacuation is ACTIVE: set for every declared screen that has no EVACUATION entry
waiting (R22, R147). -/
def State.dueAfterBump (s : State) : Vector Bool 48 :=
  mapFin (fun n d => d || (s.screens[n].isSome && !s.evacEntryQueued n)) s.evac.due

/-- A bump event as it stands at the map store (R20 to R22): in SERVICE the generation increases by one, every BUSY unit
sets CHANGED, and while evacuation is ACTIVE the due flags are set; in LOAD it has no effect. The evacuation
sweep that such a bump brings is in `State.bump`. -/
def State.bumpCore (s : State) : State :=
  if s.inService then
    let s1 := s.withMap { s.map with generation := nextGeneration s.map.generation }
    let s2 := s1.withUnits { a := s1.units.a.map Attempt.mark, b := s1.units.b.map Attempt.mark }
    if s2.evacActive then s2.withEvac { s2.evac with due := s2.dueAfterBump } else s2
  else s

/-! ## The effective state of a listing -/

/-- The effective state of a listing (R10), given whether the day clock is SET. -/
def Listing.effective (clockSet : Bool) (l : Listing) : EffState :=
  match l.override with
  | .vacant => .vacant
  | .relocated m => .moved m
  | .forcedClosed => .closed
  | .forcedOpen => .opened
  | .absent =>
    match l.hours with
    | none => .opened
    | some h =>
      if clockSet then
        match h.state with
        | .opened => .opened
        | .closed => .closed
        | .unknown => .unknown
      else .unknown

/-- The effective state of a defined listing as it stands now (R10). -/
def State.effective (s : State) (l : Listing) : EffState := l.effective s.clock.clock.isSome

/-! ## Readings of the map store's tables -/

/-- The pace table's entry for a profile and a kind (R23). -/
def MapStore.paceOf (m : MapStore) (p : Profile) (k : SegKind) : Nat := (m.pace[profileRow p])[kindColumn k]

/-- The multiplier table's entry for a profile and a class (R25). -/
def MapStore.multOf (m : MapStore) (p : Profile) (c : ZoneClass) : Nat := (m.mult[profileRow p])[classColumn c]

/-- The zone of a node, when the node is defined and has one. -/
def MapStore.nodeZone (m : MapStore) (n : Nat) : Option (Fin 32) := (m.nodes.get n).bind Node.zone

end Sys2Proof.Machine
end

