-- ==== Sys2Proof/Machine/Grammar.lean ====
section
/-!
DEFINITION. The request grammar (R164): a complete line read into its items, its tag, its verb and its fields, and the
command that a well-formed line is. The fields a verb takes, their forms, and those it requires in all its forms are
those the owning chapter names.
-/

namespace Sys2Proof.Machine

/-! ## Items -/

/-- The items read so far with the one in hand closed, unless it is empty. -/
def closeItem (cur : Text) (rest : List Text) : List Text := if cur.isEmpty then rest else cur.reverse :: rest

/-- Split at runs of spaces that stand outside quoted texts (R164); `cur` is the item in hand, reversed. Any quote opens or closes
a quoted text here, also one that does not open a field's value; what such a line then reads as is R164's other checks'
matter (DESIGN CHOICE, log entry 34). -/
def splitGo : Text → Text → Bool → List Text
  | [], cur, _ => closeItem cur []
  | c :: cs, cur, quoted =>
    if c = 32 ∧ quoted = false then closeItem cur (splitGo cs [] false)
    else splitGo cs (c :: cur) (if c = 34 then !quoted else quoted)

/-- The items of a line (R164). -/
def splitItems (line : Text) : List Text := splitGo line [] false

/-- Split at every occurrence of a character; the empty text has no part. -/
def splitAtGo (sep : Code) : Text → Text → List Text
  | [], cur => [cur.reverse]
  | c :: cs, cur => if c = sep then cur.reverse :: splitAtGo sep cs [] else splitAtGo sep cs (c :: cur)

/-- The values of a comma list (R164). -/
def splitList (t : Text) : List Text := if t.isEmpty then [] else splitAtGo 44 t []

/-! ## Value forms -/

/-- A decimal digit's value. -/
def digit? (c : Code) : Option Nat := if 48 ≤ c.toNat ∧ c.toNat ≤ 57 then some (c.toNat - 48) else none

/-- The value of decimal digits, after those already read. -/
def digitsGo : Text → Nat → Option Nat
  | [], acc => some acc
  | c :: cs, acc =>
    match digit? c with
    | none => none
    | some d => digitsGo cs (10 * acc + d)

/-- Decimal digits, from one to `most` of them. -/
def digits? (most : Nat) (t : Text) : Option Nat := if within 1 most t.length then digitsGo t 0 else none

/-- A number without a minus sign: 1 to 10 decimal digits (R164). -/
def number? (t : Text) : Option Nat := digits? 10 t

/-- A level: an optional minus sign and 1 to 10 decimal digits (R164). -/
def level? : Text → Option Int
  | [] => none
  | c :: cs => if c = 45 then (number? cs).map fun n => -(n : Int) else (number? (c :: cs)).map fun n => (n : Int)

/-- A tag: 1 to 4 decimal digits (R164 check 1). -/
def tag? (t : Text) : Option Nat := digits? 4 t

/-- A quoted text with no quote inside, possibly empty (R164). -/
def quoted? (t : Text) : Option Text :=
  match t with
  | [] => none
  | c :: cs =>
    if c = 34 ∧ cs.getLast? = some 34 ∧ cs.dropLast.contains 34 = false then some cs.dropLast else none

/-- The numbers of a comma list. -/
def numberList? : List Text → Option (List Nat)
  | [] => some []
  | t :: rest =>
    match number? t, numberList? rest with
    | some n, some l => some (n :: l)
    | _, _ => none

/-- The form that a field's value takes (R164). -/
inductive Form where
  | num
  | level
  | word (ws : List Kw)
  | numOr (w : Kw)
  | text
  | nums
  | day
deriving DecidableEq, Repr

/-- A field's value as read. -/
inductive FieldVal where
  | num (n : Nat)
  | int (i : Int)
  | word (w : Kw)
  | text (t : Text)
  | nums (l : List Nat)
deriving DecidableEq, Repr

/-- A word among those a field lists. -/
def wordAmong (ws : List Kw) (t : Text) : Option Kw := ws.find? fun w => kwText w == t

/-- A value read under its field's form; `none` when it is malformed (R164 check 5). -/
def readValue (f : Form) (t : Text) : Option FieldVal :=
  match f with
  | .num => (number? t).map .num
  | .level => (level? t).map .int
  | .word ws => (wordAmong ws t).map .word
  | .numOr w => if kwText w == t then some (.word w) else (number? t).map .num
  | .text => (quoted? t).map .text
  | .nums => (numberList? (splitList t)).map .nums
  | .day =>
    if kwText .closed == t then some (.word .closed)
    else
      match numberList? (splitList t) with
      | some [o, c] => some (.nums [o, c])
      | _ => none

/-! ## The fields of each verb -/

def allNodeKinds : List NodeKind :=
  [.junction, .door, .liftLanding, .escalatorEnd, .stairHead, .screenPoint, .exit]
def allSegKinds : List SegKind := [.walk, .ramp, .stairs, .escalator, .lift, .travelator, .door, .service]
def allOpenStates : List OpenState := [.opened, .closed]
def allProfiles : List Profile := [.standard, .stepFree, .quick, .evacuation]
def allClasses : List ZoneClass := [.clear, .busy, .crowded]
def allOverrides : List OverrideWord := [.absent, .forcedOpen, .forcedClosed, .vacant, .relocated]
def allGateModes : List GateMode := [.off, .twoWay, .oneWay, .pulse]
def allSubjects : List SubjectWord := [.occupancy, .cls, .gateFault, .demand, .failures, .queueDepth]
def allCmps : List Cmp := [.atLeast, .below]
def allActions : List ActionWord := [.report, .pulse, .freeze, .apply, .stage]
def allPageKinds : List PageKind := [.category, .listing, .search, .levelMap, .route]
def allCadenceModes : List CadenceMode := [.repeating, .once]
def allCadenceRoles : List CadenceRole := [.plain, .master, .follower]

/-- The fields that a verb takes, each with the form of its value. -/
def verbFields : Verb → List (Key × Form)
  | .status => [(.clear, .num)]
  | .fetch => []
  | .mask => [(.routeResult, .num), (.zoneClass, .num), (.gateFault, .num), (.gateClear, .num), (.watch, .num),
      (.hours, .num), (.evac, .num), (.cadence, .num)]
  | .start => []
  | .stop => []
  | .mapClear => []
  | .node => [(.index, .num), (.kind, .word (allNodeKinds.map nodeKindWord)), (.level, .level), (.zone, .num),
      (.label, .text), (.remove, .num), (.read, .num)]
  | .seg => [(.index, .num), (.fromSide, .num), (.toSide, .num), (.length, .num),
      (.kind, .word (allSegKinds.map segKindWord)), (.zone, .numOr .absent), (.group, .num),
      (.state, .word (allOpenStates.map openStateWord)), (.trim, .num), (.remove, .num), (.read, .num)]
  | .segState => [(.index, .num), (.state, .word (allOpenStates.map openStateWord))]
  | .segTrim => [(.index, .num), (.trim, .num)]
  | .liftWait => [(.group, .num), (.wait, .num)]
  | .listing => [(.index, .num), (.name, .text), (.category, .num), (.doors, .nums), (.d0, .day), (.d1, .day),
      (.d2, .day), (.d3, .day), (.d4, .day), (.d5, .day), (.d6, .day),
      (.override, .word (allOverrides.map overrideKindWord)), (.target, .num), (.remove, .num)]
  | .override => [(.listing, .num), (.value, .word (allOverrides.map overrideKindWord)), (.target, .num)]
  | .search => [(.startsWith, .text), (.category, .num), (.start, .num)]
  | .lookup => [(.listing, .num)]
  | .demand => [(.listing, .num), (.clear, .num)]
  | .screen => [(.screen, .num), (.point, .num), (.cadence, .numOr .absent), (.language, .num), (.idle, .num),
      (.remove, .num), (.read, .num)]
  | .pace => [(.profile, .word (allProfiles.map profileWord)), (.kind, .word (allSegKinds.map segKindWord)),
      (.value, .num)]
  | .mult => [(.profile, .word (allProfiles.map profileWord)), (.cls, .word (allClasses.map classWord)),
      (.value, .num)]
  | .route => [(.screen, .num), (.fromSide, .num), (.listing, .num), (.toSide, .num), (.category, .num),
      (.exit, .num), (.profile, .word (allProfiles.map profileWord))]
  | .routeCancel => [(.route, .num)]
  | .gate => [(.gate, .num), (.mode, .word (allGateModes.map gateModeWord)), (.fromSide, .numOr .outside),
      (.toSide, .numOr .outside), (.invert, .num), (.stuck, .num)]
  | .gateRead => [(.gate, .num), (.clear, .num)]
  | .zone => [(.zone, .num), (.enable, .num), (.busy, .num), (.crowded, .num), (.margin, .num), (.hold, .num)]
  | .censusPeriod => [(.period, .num)]
  | .zoneClose => [(.zone, .num)]
  | .zoneOpen => [(.zone, .num)]
  | .occupancy => [(.zone, .num), (.n, .num)]
  | .censusZero => []
  | .historyResume => []
  | .history => [(.next, .num)]
  | .zoneRead => [(.zone, .num)]
  | .watch => [(.watch, .num), (.subject, .word (allSubjects.map subjectKindWord)),
      (.cmp, .word (allCmps.map cmpWord)), (.threshold, .num), (.action, .word (allActions.map actionKindWord)),
      (.zone, .num), (.gate, .num), (.listing, .num), (.count, .num), (.chained, .num), (.line, .num),
      (.target, .num), (.holdoff, .num)]
  | .watchArm => [(.watch, .num)]
  | .watchOff => [(.watch, .num)]
  | .watchRead => [(.watch, .num)]
  | .nav => [(.screen, .num), (.page, .word (allPageKinds.map pageKindWord)), (.category, .num), (.listing, .num),
      (.text, .text), (.level, .level)]
  | .back => [(.screen, .num)]
  | .backRestore => [(.screen, .num)]
  | .home => [(.screen, .num)]
  | .prefs => [(.screen, .num), (.language, .num), (.profile, .word (allProfiles.map profileWord))]
  | .tap => [(.screen, .num)]
  | .screenGet => [(.screen, .num)]
  | .evac => []
  | .evacEnd => []
  | .clock => [(.weekday, .num), (.minute, .num), (.second, .num)]
  | .clockRead => []
  | .cadence => [(.timer, .num), (.period, .num), (.pages, .num),
      (.mode, .word (allCadenceModes.map cadenceModeWord)), (.role, .word (allCadenceRoles.map cadenceRoleWord))]
  | .cadenceRun => [(.timer, .num), (.restart, .num)]
  | .cadenceHalt => [(.timer, .num)]

/-- A line's fields as read: names with values. -/
abbrev Args := List (Key × FieldVal)

/-- Split an item at its first equals sign (R164 check 3). -/
def splitField (t : Text) : Option (Text × Text) :=
  match t.span (· != 61) with
  | (n, _ :: v) => some (n, v)
  | (_, []) => none

/-- One item as a field of a verb, given the fields already read (R164 checks 3 to 5). -/
def readField (v : Verb) (args : Args) (item : Text) : Option (Key × FieldVal) :=
  match splitField item with
  | none => none
  | some (n, t) =>
    match (verbFields v).find? fun kf => keyText kf.1 == n with
    | none => none
    | some (k, f) => if args.any fun a => a.1 == k then none else (readValue f t).map fun x => (k, x)

/-- The fields of a line, in order. -/
def readFields (v : Verb) : List Text → Args → Option Args
  | [], args => some args
  | i :: rest, args =>
    match readField v args i with
    | none => none
    | some a => readFields v rest (args ++ [a])

/-! ## Reading typed fields -/

/-- A field's value. -/
def argOf (args : Args) (k : Key) : Option FieldVal := (args.find? fun a => a.1 == k).map Prod.snd

def argNum (args : Args) (k : Key) : Option Nat :=
  match argOf args k with | some (.num n) => some n | _ => none

def argInt (args : Args) (k : Key) : Option Int :=
  match argOf args k with | some (.int i) => some i | _ => none

def argText (args : Args) (k : Key) : Option Text :=
  match argOf args k with | some (.text t) => some t | _ => none

def argNums (args : Args) (k : Key) : Option (List Nat) :=
  match argOf args k with | some (.nums l) => some l | _ => none

/-- A field that takes a number or one fixed word. -/
def argNumOr (args : Args) (k : Key) : Option (Option Nat) :=
  match argOf args k with | some (.num n) => some (some n) | some (.word _) => some none | _ => none

def argDay (args : Args) (k : Key) : Option DayEntry :=
  match argOf args k with
  | some (.word _) => some .closed
  | some (.nums [o, c]) => some (.window o c)
  | _ => none

/-- A field that takes one of several words. -/
def argWord {α : Type} (all : List α) (spell : α → Kw) (args : Args) (k : Key) : Option α :=
  match argOf args k with | some (.word w) => all.find? fun x => spell x == w | _ => none

/-! ## The command of a well-formed line -/

def nodeArgs (a : Args) : NodeArgs :=
  { kind := argWord allNodeKinds nodeKindWord a .kind, level := argInt a .level, zone := argNum a .zone
    label := argText a .label, remove := argNum a .remove, read := argNum a .read }

def segArgs (a : Args) : SegArgs :=
  { src := argNum a .fromSide, dst := argNum a .toSide, length := argNum a .length
    kind := argWord allSegKinds segKindWord a .kind, zone := argNumOr a .zone, group := argNum a .group
    state := argWord allOpenStates openStateWord a .state, trim := argNum a .trim, remove := argNum a .remove
    read := argNum a .read }

def listingArgs (a : Args) : ListingArgs :=
  { name := argText a .name, category := argNum a .category, doors := argNums a .doors
    days := #v[argDay a .d0, argDay a .d1, argDay a .d2, argDay a .d3, argDay a .d4, argDay a .d5, argDay a .d6]
    override := argWord allOverrides overrideKindWord a .override, target := argNum a .target
    remove := argNum a .remove }

def screenArgs (a : Args) : ScreenArgs :=
  { point := argNum a .point, cadence := argNumOr a .cadence, language := argNum a .language, idle := argNum a .idle
    remove := argNum a .remove, read := argNum a .read }

def routeArgs (a : Args) : RouteArgs :=
  { screen := argNum a .screen, src := argNum a .fromSide, listing := argNum a .listing, dst := argNum a .toSide
    category := argNum a .category, exit := argNum a .exit
    profile := argWord allProfiles profileWord a .profile }

def gateArgs (a : Args) : GateArgs :=
  { mode := argWord allGateModes gateModeWord a .mode, src := argNumOr a .fromSide, dst := argNumOr a .toSide
    invert := argNum a .invert, stuck := argNum a .stuck }

def zoneArgs (a : Args) : ZoneArgs :=
  { enable := argNum a .enable, busy := argNum a .busy, crowded := argNum a .crowded, margin := argNum a .margin
    hold := argNum a .hold }

def navArgs (a : Args) (p : PageKind) : NavArgs :=
  { page := p, category := argNum a .category, listing := argNum a .listing, text := argText a .text
    level := argInt a .level }

def cadenceArgs (a : Args) : CadenceArgs :=
  { period := argNum a .period, pages := argNum a .pages, mode := argWord allCadenceModes cadenceModeWord a .mode
    role := argWord allCadenceRoles cadenceRoleWord a .role }

def maskArgs (a : Args) : MaskArgs :=
  { routeResult := argNum a .routeResult, zoneClass := argNum a .zoneClass, gateFault := argNum a .gateFault
    gateClear := argNum a .gateClear, watch := argNum a .watch, hours := argNum a .hours, evac := argNum a .evac
    cadence := argNum a .cadence }

def watchArgs? (a : Args) : Option WatchArgs :=
  match argWord allSubjects subjectKindWord a .subject, argWord allCmps cmpWord a .cmp, argNum a .threshold,
    argWord allActions actionKindWord a .action with
  | some s, some c, some t, some x =>
    some { subject := s, cmp := c, threshold := t, action := x, zone := argNum a .zone, gate := argNum a .gate
           listing := argNum a .listing, count := argNum a .count, chained := argNum a .chained
           line := argNum a .line, target := argNum a .target, holdOff := argNum a .holdoff }
  | _, _, _, _ => none

/-- Which of its three rows a NODE, SEG or SCREEN request is: a read with READ=1, else a removal with REMOVE=1, else
a put (log entry 8). -/
def byForm {α : Type} (read remove : Option Nat) (asRead asRemove asPut : α) : α :=
  if flagSet read then asRead else if flagSet remove then asRemove else asPut

/-- The command that a verb with its fields is; `none` when a field that the verb requires in all its forms is absent
(R164 check 6). -/
def requestOf (v : Verb) (t : Nat) (a : Args) : Option Instr :=
  match v with
  | .status => some (.status t (argNum a .clear))
  | .fetch => some (.fetch t)
  | .mask => some (.mask t (maskArgs a))
  | .start => some (.start t)
  | .stop => some (.stop t)
  | .mapClear => some (.mapClear t)
  | .node => (argNum a .index).map fun i =>
      byForm (nodeArgs a).read (nodeArgs a).remove (.nodeRead t i (nodeArgs a)) (.nodeRemove t i (nodeArgs a))
        (.nodePut t i (nodeArgs a))
  | .seg => (argNum a .index).map fun i =>
      byForm (segArgs a).read (segArgs a).remove (.segRead t i (segArgs a)) (.segRemove t i (segArgs a))
        (.segPut t i (segArgs a))
  | .segState =>
    match argNum a .index, argWord allOpenStates openStateWord a .state with
    | some i, some x => some (.segState t i x)
    | _, _ => none
  | .segTrim =>
    match argNum a .index, argNum a .trim with
    | some i, some x => some (.segTrim t i x)
    | _, _ => none
  | .liftWait => (argNum a .group).map fun g =>
      match argNum a .wait with | some w => .liftWait t g w | none => .liftWaitRead t g
  | .listing => (argNum a .index).map fun i =>
      if flagSet (listingArgs a).remove then .listingRemove t i (listingArgs a) else .listingPut t i (listingArgs a)
  | .override =>
    match argNum a .listing, argWord allOverrides overrideKindWord a .value with
    | some l, some x => some (.override t l x (argNum a .target))
    | _, _ => none
  | .search => some (.search t ((argText a .startsWith).getD []) (argNum a .category) ((argNum a .start).getD 0))
  | .lookup => (argNum a .listing).map (.lookup t)
  | .demand => some (.demand t (argNum a .listing) (argNum a .clear))
  | .screen => (argNum a .screen).map fun n =>
      byForm (screenArgs a).read (screenArgs a).remove (.screenRead t n (screenArgs a))
        (.screenUndeclare t n (screenArgs a)) (.screenDeclare t n (screenArgs a))
  | .pace => (argWord allProfiles profileWord a .profile).map fun p =>
      match argNum a .value with
      | some x => .paceWrite t p (argWord allSegKinds segKindWord a .kind) x
      | none => .paceRead t p (argWord allSegKinds segKindWord a .kind)
  | .mult => (argWord allProfiles profileWord a .profile).map fun p =>
      match argNum a .value with
      | some x => .multWrite t p (argWord allClasses classWord a .cls) x
      | none => .multRead t p (argWord allClasses classWord a .cls)
  | .route => some (.route t (routeArgs a))
  | .routeCancel => (argNum a .route).map (.routeCancel t)
  | .gate => (argNum a .gate).map fun g => .gate t g (gateArgs a)
  | .gateRead => some (.gateRead t (argNum a .gate) (argNum a .clear))
  | .zone => (argNum a .zone).map fun z => .zone t z (zoneArgs a)
  | .censusPeriod => some (match argNum a .period with | some p => .censusPeriod t p | none => .censusPeriodRead t)
  | .zoneClose => (argNum a .zone).map (.zoneClose t)
  | .zoneOpen => (argNum a .zone).map (.zoneOpen t)
  | .occupancy =>
    match argNum a .zone, argNum a .n with
    | some z, some n => some (.occupancy t z n)
    | _, _ => none
  | .censusZero => some (.censusZero t)
  | .historyResume => some (.historyResume t)
  | .history => some (.history t (argNum a .next))
  | .zoneRead => some (.zoneRead t (argNum a .zone))
  | .watch =>
    match argNum a .watch, watchArgs? a with
    | some w, some x => some (.watch t w x)
    | _, _ => none
  | .watchArm => (argNum a .watch).map (.watchArm t)
  | .watchOff => (argNum a .watch).map (.watchOff t)
  | .watchRead => some (.watchRead t (argNum a .watch))
  | .nav =>
    match argNum a .screen, argWord allPageKinds pageKindWord a .page with
    | some n, some p => some (.nav t n (navArgs a p))
    | _, _ => none
  | .back => (argNum a .screen).map (.back t)
  | .backRestore => (argNum a .screen).map (.backRestore t)
  | .home => (argNum a .screen).map (.home t)
  | .prefs => (argNum a .screen).map fun n => .prefs t n (argNum a .language) (argWord allProfiles profileWord a .profile)
  | .tap => (argNum a .screen).map (.tap t)
  | .screenGet => (argNum a .screen).map (.screenGet t)
  | .evac => some (.evac t)
  | .evacEnd => some (.evacEnd t)
  | .clock =>
    match argNum a .weekday, argNum a .minute with
    | some d, some m => some (.clock t d m (argNum a .second))
    | _, _ => none
  | .clockRead => some (.clockRead t)
  | .cadence => (argNum a .timer).map fun k =>
      if cadenceArgs a = {} then .cadenceRead t k else .cadence t k (cadenceArgs a)
  | .cadenceRun => (argNum a .timer).map fun k => .cadenceRun t k (argNum a .restart)
  | .cadenceHalt => (argNum a .timer).map (.cadenceHalt t)

/-- What the command handler makes of a complete line (R164). -/
inductive Reading where
  /-- Check 1 fails: no reply, and the frame error count increases. -/
  | noTag
  /-- Check 2 fails. -/
  | unknownVerb (tag : Nat)
  /-- One of checks 3 to 6 fails. -/
  | badField (tag : Nat)
  /-- The line is well formed: the request it is. -/
  | request (c : Instr)
deriving DecidableEq, Repr

/-- The fields of a LISTING put are all of D0 to D6 or none (R7, R164 check 6). -/
def weekWhole (days : Vector (Option DayEntry) 7) : Bool :=
  days.toList.all Option.isSome || days.toList.all Option.isNone

/-- A LISTING put that gives some but not all of D0 to D6 is malformed (R7, R164). -/
def partWeek : Instr → Bool
  | .listingPut _ _ a => !weekWhole a.days
  | _ => false

/-- The command of a line whose tag and verb are read. -/
def readRequest (v : Verb) (t : Nat) (items : List Text) : Reading :=
  match readFields v items [] with
  | none => .badField t
  | some a =>
    match requestOf v t a with
    | none => .badField t
    | some c => if partWeek c then .badField t else .request c

/-- A complete line read by the checks of R164, in order. -/
def readLine (line : Text) : Reading :=
  match splitItems line with
  | v :: t :: rest =>
    match tag? t with
    | none => .noTag
    | some n =>
      match allVerbs.find? fun w => verbText w == v with
      | none => .unknownVerb n
      | some w => readRequest w n rest
  | _ => .noTag

/-- The tag of a line, by check 1 of R164. -/
def lineTag? (line : Text) : Option Nat :=
  match splitItems line with
  | _ :: t :: _ => tag? t
  | _ => none

end Sys2Proof.Machine
end

