-- ==== Sys2Proof/Machine/Cost.lean ====
section
/-!
DEFINITION. Segment cost (chapter 2): usability, the cost of one segment, the cost of a path, the ETA, and the view of the
map that an attempt takes at its start event (R55 step 4).
-/

namespace Sys2Proof.Machine

/-- The segment's zone is closed to routing (R99). -/
def Seg.zoneClosed (s : State) (g : Seg) : Bool :=
  match g.zone with
  | none => false
  | some z => (s.zone z).closed

/-- The closed-origin exception (R28 condition 4, R29): the segment's zone is present and is the origin's zone. -/
def Seg.inOriginZone (originZone : Option (Fin 32)) (g : Seg) : Bool := g.zone.isSome && g.zone == originZone

/-- The wait of the segment's lift group; a segment put without a group has none (R4). -/
def Seg.wait? (s : State) (g : Seg) : Option Nat := g.group.map fun k => s.map.liftWaits[k]

/-- Condition 3 of R28: a LIFT segment's group has a wait below 255. -/
def Seg.liftRuns (s : State) (g : Seg) : Bool :=
  g.kind != .lift || (match g.wait? s with | some w => w < 255 | none => false)

/-- A segment is usable under a profile and an origin zone when the four conditions of R28 hold. -/
def Seg.usable (s : State) (p : Profile) (originZone : Option (Fin 32)) (g : Seg) : Bool :=
  g.state == .opened && 0 < s.map.paceOf p g.kind && g.liftRuns s
    && (!g.zoneClosed s || g.inOriginZone originZone)

/-- The base of a segment: length times pace, divided by 100 and rounded up (R30). -/
def baseCost (length pace : Nat) : Nat := ceilDiv (length * pace) 100

/-- The scaled cost: base times multiplier, divided by 16 and rounded up (R31). -/
def scaledCost (base mult : Nat) : Nat := ceilDiv (base * mult) 16

/-- The multiplier of a segment under a profile: the entry of its zone's class, 16 where the zone is absent (R31). -/
def Seg.multiplier (s : State) (p : Profile) (g : Seg) : Nat :=
  match g.zone with
  | none => 16
  | some z => s.map.multOf p (s.zone z).cls

/-- What is added for lift waiting: ten times the group's wait, for a LIFT segment (R32). -/
def Seg.waitCost (s : State) (g : Seg) : Nat :=
  if g.kind = .lift then 10 * (g.wait? s).getD 0 else 0

/-- The cost of a usable segment, held to at most 9,999 ds (R30 to R32). -/
def Seg.cost (s : State) (p : Profile) (g : Seg) : Nat :=
  min 9999 (scaledCost (baseCost g.length (s.map.paceOf p g.kind)) (g.multiplier s p) + 10 * g.trim + g.waitCost s)

/-- A path's cost: the sum of its segments' costs, held to at most 999,999 ds (R33). -/
def heldSum (costs : List Nat) : Nat := min 999999 costs.sum

/-- The ETA of a cost in minutes, rounded up (R34). -/
def etaOf (cost : Nat) : Nat := ceilDiv cost 600

/-- The segment as a start event sees it. -/
def Seg.hop (s : State) (p : Profile) (originZone : Option (Fin 32)) (i : Nat) (g : Seg) : Hop :=
  { seg := i, src := g.src, dst := g.dst, kind := g.kind, length := g.length, cost := g.cost s p
    excepted := g.zoneClosed s && g.inOriginZone originZone
    estimated := match g.zone with | none => false | some z => (s.zone z).estimated }

/-- The usability and cost of every defined segment under a profile and an origin, as they stand now (R55 step 4): the usable
segments, each with its cost. -/
def viewOf (s : State) (p : Profile) (originZone : Option (Fin 32)) : List Hop :=
  s.map.segs.filterMap fun q => if q.2.usable s p originZone then some (q.2.hop s p originZone q.1) else none

end Sys2Proof.Machine
end

