-- ==== Sys2Proof/Machine/Search.lean ====
section
/-!
DEFINITION. The search of a route unit (R60) and the legs of a path (R69, R70). The search works backward from the
destination set: `relax` keeps, for each node, the best path found so far from it to the set, and goes on until a
round changes nothing. Paths of equal held cost at the limit of 999,999 ds are ranked by a second search that counts
segments alone, since every such path has the same cost (R33).
-/

namespace Sys2Proof.Machine

/-- A path: the segments travelled, in order. -/
abbrev Path := List Hop

/-- Lists of indices in the order of R60 tests 3 and 4: the first position that differs decides, the lower index first. -/
def lexLt : List Nat → List Nat → Bool
  | [], [] => false
  | [], _ :: _ => true
  | _ :: _, [] => false
  | a :: as, b :: bs => if a < b then true else if b < a then false else lexLt as bs

/-- The cost of a path under a cost function. -/
def pathCost (w : Hop → Nat) (p : Path) : Nat := (p.map w).sum

/-- The path `p` is chosen before `q` by the tests of R60: cost, number of segments, node indices, segment indices. Both
begin at one node. -/
def pathBefore (w : Hop → Nat) (p q : Path) : Bool :=
  if pathCost w p < pathCost w q then true
  else if pathCost w q < pathCost w p then false
  else if p.length < q.length then true
  else if q.length < p.length then false
  else if lexLt (p.map Hop.dst) (q.map Hop.dst) then true
  else if lexLt (q.map Hop.dst) (p.map Hop.dst) then false
  else lexLt (p.map Hop.seg) (q.map Hop.seg)

/-- The best paths known, by the node they begin at. -/
abbrev Bests := Table Path

/-- Offer a path as the best from a node; the flag says whether it was taken. -/
def offer (w : Hop → Nat) (t : Bests) (n : Nat) (p : Path) : Bests × Bool :=
  match t.get n with
  | none => (t.put n p, true)
  | some q => if pathBefore w p q then (t.put n p, true) else (t, false)

/-- Try one segment ahead of the best path from its end. -/
def relaxHop (w : Hop → Nat) (acc : Bests × Bool) (h : Hop) : Bests × Bool :=
  match acc.1.get h.dst with
  | none => acc
  | some p => ((offer w acc.1 h.src (h :: p)).1, acc.2 || (offer w acc.1 h.src (h :: p)).2)

/-- One round over every usable segment; the flag says whether anything changed. -/
def relax (w : Hop → Nat) (view : List Hop) (t : Bests) : Bests × Bool := view.foldl (relaxHop w) (t, false)

/-- Rounds until one changes nothing, at most `fuel` of them. -/
def relaxRounds (w : Hop → Nat) (view : List Hop) : Nat → Bests → Bests
  | 0, t => t
  | fuel + 1, t => if (relax w view t).2 then relaxRounds w view fuel (relax w view t).1 else t

/-- At each destination node the path of no segments. -/
def startBests (targets : List Nat) : Bests := targets.foldl (fun t n => Table.put t n []) []

/-- The best path from the origin to the set under a cost function. A best path repeats no node, so it has at most as
many segments as the view, and so many rounds find it. -/
def bestPath (w : Hop → Nat) (view : List Hop) (origin : Nat) (targets : List Nat) : Option Path :=
  (relaxRounds w view (view.length + 1) (startBests targets)).get origin

/-- The found path (R60): the best by cost; where even that cost is held at 999,999, every path costs the same and the
later tests choose. -/
def foundPath (view : List Hop) (origin : Nat) (targets : List Nat) : Option Path :=
  match bestPath Hop.cost view origin targets with
  | none => none
  | some p => if pathCost Hop.cost p < 999999 then some p else bestPath (fun _ => 0) view origin targets

/-! ## Legs (section 4.7) -/

/-- The level of a node as it stands now; 0 stands for an undefined node, which no path of a valid map holds. -/
def nodeLevel (m : MapStore) (n : Nat) : Int := ((m.nodes.get n).map Node.level).getD 0

/-- Runs of segments that share a leg: of one kind, and that kind not DOOR (R69). -/
def legRuns : Path → List (List Hop)
  | [] => []
  | h :: rest =>
    match legRuns rest with
    | [] => [[h]]
    | [] :: runs => [h] :: runs
    | (k :: r) :: runs => if h.kind = k.kind ∧ h.kind ≠ .door then (h :: k :: r) :: runs else [h] :: (k :: r) :: runs

/-- A leg over a run of segments (R69, R70). -/
def legOf (m : MapStore) (kind : LegKind) (run : List Hop) : Leg :=
  let e := ((run.getLast?).map Hop.dst).getD 0
  { kind := kind, endNode := e, endLevel := nodeLevel m e, distance := min 65535 (run.map Hop.length).sum
    count := run.length }

/-- The leg of a run: its instruction is the kind of its segments (R69). -/
def legOfRun (m : MapStore) (run : List Hop) : Leg := legOf m (.seg (((run.head?).map Hop.kind).getD .walk)) run

/-- The legs were cut to 24 (R70). -/
def legsTruncated (p : Path) : Bool := 24 < (legRuns p).length

/-- The legs of a path (R69), at most 24: past that, the 24th is CONTINUE over the rest (R70). -/
def legsOf (m : MapStore) (p : Path) : List Leg :=
  if legsTruncated p then
    ((legRuns p).take 23).map (legOfRun m) ++ [legOf m .continued ((legRuns p).drop 23).flatten]
  else (legRuns p).map (legOfRun m)

end Sys2Proof.Machine
end

