-- ==== Sys2Proof/Machine/Flags.lean ====
section
/-!
DEFINITION. The flags of a route result (R71), each formed by its own line of the table, in the table's order.
-/

namespace Sys2Proof.Machine

/-- The flags that a resolution sets, in the order of R71. -/
def ResFlags.list (f : ResFlags) : List RouteFlag :=
  (if f.moved then [.moved] else []) ++ (if f.destClosed then [.destClosed] else [])
    ++ (if f.hoursUnknown then [.hoursUnknown] else [])

/-- UNSETTLED, when the result was checked on a third attempt with CHANGED set (R65). -/
def unsettledFlag (u : Bool) : List RouteFlag := if u then [.unsettled] else []

/-- HOURS_UNKNOWN of a delivered route: the resolution's, or for a CATEGORY destination a listing reached that was UNKNOWN
at the start event (R57, R71). -/
def hoursUnknownAtDelivery (e : Entry) (f : ResFlags) (t : Option Target) : Bool :=
  f.hoursUnknown || (match e.dest, t with | .category _, some x => x.unknown | _, _ => false)

/-- ORIGIN_CLOSED: a segment usable by the exception alone, or an exit admitted by it (R29, R59, R71). -/
def originClosed (p : Path) (t : Option Target) : Bool :=
  p.any Hop.excepted || (match t with | some x => x.excepted | none => false)

/-- The flags of a DELIVERED result (R71). -/
def deliveredFlags (e : Entry) (f : ResFlags) (p : Path) (t : Option Target) (unsettled : Bool) : List RouteFlag :=
  (if p.isEmpty then [.atDestination] else [])
    ++ ResFlags.list { f with hoursUnknown := hoursUnknownAtDelivery e f t }
    ++ (if originClosed p t then [.originClosed] else [])
    ++ (if p.any Hop.estimated then [.estimated] else [])
    ++ (if legsTruncated p then [.truncated] else [])
    ++ unsettledFlag unsettled

end Sys2Proof.Machine
end

