-- ==== Sys2Proof/Machine/SessionOps.lean ====
section
/-!
DEFINITION. The shared operations of the session block (chapter 8): the navigation stack, the idle timer, the entries to
IDLE, DORMANT and ALERT, and the taking of route outcomes.
-/

namespace Sys2Proof.Machine

/-- A session as a SCREEN declaration makes it (R124). -/
def Session.made (d : ScreenDecl) : Session :=
  { state := .dormant, language := d.language, profile := .standard, stack := [], pending := none, shown := none
    evac := none, idle := none }

/-- The idle timer starts from zero, reading the declaration's timeout (R133). -/
def Session.restartIdle (d : ScreenDecl) (ses : Session) : Session := { ses with idle := some ⟨d.idleTimeout, 0⟩ }

/-- A push at this depth discards the bottom entry (R125). -/
def Session.full (ses : Session) : Bool := 8 ≤ ses.stack.length

/-- Push a page with the current language and profile; at depth 8 the bottom entry is discarded first (R125). -/
def Session.push (ses : Session) (p : Page) : Session :=
  { ses with stack := ⟨p, ses.language, ses.profile⟩ :: ses.stack.take 7 }

/-- IDLE with everything cleared, as START and evacuation exit make it (R138, R139). -/
def Session.toIdle (d : ScreenDecl) (_ : Session) : Session := { Session.made d with state := .idle }

/-- DORMANT with everything cleared, as STOP makes it (R138). -/
def Session.toDormant (d : ScreenDecl) (_ : Session) : Session := Session.made d

/-- ALERT: stack and route ids cleared, idle timer stopped, language and profile kept (R139). -/
def Session.toAlert (ses : Session) : Session :=
  { ses with state := .alert, stack := [], pending := none, shown := none, evac := none, idle := none }

/-- A session in ALERT becomes IDLE at the evacuation exit event (R139). -/
def Session.leaveAlert (d : ScreenDecl) (ses : Session) : Session :=
  if ses.state = .alert then ses.toIdle d else ses

/-- A ROUTE request of the screen was accepted with this id (R135). -/
def Session.routeAccepted (id : Nat) (d : ScreenDecl) (ses : Session) : Session :=
  ({ ses with state := .routePending, pending := some id, shown := none } : Session).restartIdle d

/-- The session takes a NORMAL outcome when it is ROUTE_PENDING on that id (R136). SUPERSEDED keeps it pending. -/
def Session.takeOutcome (id : Nat) (o : RouteOutcome) (d : ScreenDecl) (ses : Session) : Session :=
  if ses.state = .routePending ∧ ses.pending = some id then
    match o with
    | .delivered =>
      ({ ses.push (.route id) with state := .routeShown, pending := none, shown := some id } : Session).restartIdle d
    | .noRoute | .noRouteUnsettled | .noDestination | .unresolvedMove | .noExit | .cancelled | .evacCancelled
    | .serviceStopped => ({ ses with state := .active, pending := none } : Session).restartIdle d
    | .superseded | .withdrawn | .evacEnded => ses
  else ses

/-- A session in ALERT takes an evacuation result (R139). -/
def Session.takeEvacResult (id : Nat) (o : RouteOutcome) (_ : ScreenDecl) (ses : Session) : Session :=
  if ses.state = .alert then
    match o with
    | .delivered => { ses with evac := some id }
    | .noRoute | .noRouteUnsettled | .noExit => { ses with evac := none }
    | .noDestination | .unresolvedMove | .superseded | .cancelled | .withdrawn | .evacCancelled | .evacEnded
    | .serviceStopped => ses
  else ses

/-- The session clears its pending route id as it withdraws the route (R49, R136). -/
def Session.clearPending (_ : ScreenDecl) (ses : Session) : Session := { ses with pending := none }

/-- The state after a pop: ROUTE_SHOWN when the new top is a ROUTE page, ACTIVE otherwise (R130). -/
def Session.settleOnTop (ses : Session) : Session :=
  match ses.stack with
  | [] => { ses with state := .active, shown := none }
  | top :: _ =>
    match top.page with
    | .route id => { ses with state := .routeShown, shown := some id }
    | .category _ | .listing _ | .search _ | .levelMap _ => { ses with state := .active, shown := none }

end Sys2Proof.Machine
end

