-- ==== Sys2Proof/Machine/RouteOps.lean ====
section
/-!
DEFINITION. The shared operations of the route queue, the route units and the evacuation sweep (chapters 3, 4 and 9):
destination resolution, the start event, results and their posting, removals and aborts, the arbiter, the
sweep, and the bump with the sweep it brings.
-/

namespace Sys2Proof.Machine

/-! ## Destination resolution (section 4.3) -/

/-- A listing's doors in slot order, each held with the listing (R56). -/
def doorTargets (l : Nat) (unknown : Bool) (doors : List Nat) : List Target :=
  doors.map fun d => { node := d, listing := some l, unknown := unknown, excepted := false }

/-- Take a node into a destination set: no node twice, at most 64 (R57). -/
def takeTarget (set : List Target) (t : Target) : List Target :=
  if 64 ≤ set.length ∨ set.any (fun x => x.node == t.node) then set else set ++ [t]

/-- The set formed by taking targets in order (R57). -/
def formSet (ts : List Target) : List Target := ts.foldl takeTarget []

/-- A LISTING destination by the listing's effective state, a relocation followed one step (R56). -/
def resolveListing (s : State) (l : Nat) : Resolution :=
  match s.map.listings.get l with
  | none => .failed .noDestination
  | some r =>
    match s.effective r with
    | .vacant => .failed .noDestination
    | .closed => .targets (formSet (doorTargets l false r.doors)) { destClosed := true }
    | .unknown => .targets (formSet (doorTargets l true r.doors)) { hoursUnknown := true }
    | .opened => .targets (formSet (doorTargets l false r.doors)) {}
    | .moved m =>
      match s.map.listings.get m with
      | none => .failed .unresolvedMove
      | some q =>
        match s.effective q with
        | .moved _ => .failed .unresolvedMove
        | .vacant => .failed .unresolvedMove
        | .opened => .targets (formSet (doorTargets m false q.doors)) { moved := true }
        | .closed => .targets (formSet (doorTargets m false q.doors)) { moved := true, destClosed := true }
        | .unknown => .targets (formSet (doorTargets m true q.doors)) { moved := true, hoursUnknown := true }

/-- The listings of a category whose effective state satisfies a test, in ascending index (R57). -/
def categoryListings (s : State) (c : Nat) (test : EffState → Bool) : List (Nat × Listing) :=
  s.map.listings.filter fun q => q.2.category == c && test (s.effective q.2)

/-- The doors of several listings, listing by listing (R57). -/
def doorsOfAll (s : State) (ls : List (Nat × Listing)) : List Target :=
  ls.flatMap fun q => doorTargets q.1 (s.effective q.2 == .unknown) q.2.doors

/-- A CATEGORY destination: the OPEN or UNKNOWN listings, or failing those the CLOSED ones (R57). -/
def resolveCategory (s : State) (c : Nat) : Resolution :=
  match categoryListings s c fun e => e == .opened || e == .unknown with
  | q :: qs => .targets (formSet (doorsOfAll s (q :: qs))) {}
  | [] =>
    match categoryListings s c fun e => e == .closed with
    | q :: qs => .targets (formSet (doorsOfAll s (q :: qs))) { destClosed := true }
    | [] => .failed .noDestination

/-- Whether a node's zone is closed. -/
def Node.zoneClosed (s : State) (n : Node) : Bool :=
  match n.zone with
  | none => false
  | some z => (s.zone z).closed

/-- The EXIT nodes admitted under an origin zone, the first 64 in ascending index (R59). -/
def exitTargets (s : State) (originZone : Option (Fin 32)) : List Target :=
  (s.map.nodes.filterMap fun q =>
    if q.2.kind == .exit && (!q.2.zoneClosed s || (q.2.zone.isSome && q.2.zone == originZone)) then
      some { node := q.1, listing := none, unknown := false, excepted := q.2.zoneClosed s }
    else none).take 64

/-- An EXIT destination (R59). -/
def resolveExit (s : State) (originZone : Option (Fin 32)) : Resolution :=
  match exitTargets s originZone with
  | [] => .failed .noExit
  | t :: ts => .targets (t :: ts) {}

/-- Resolution of a destination at a start event (R56 to R59). -/
def resolve (s : State) (d : Dest) (originZone : Option (Fin 32)) : Resolution :=
  match d with
  | .listing l => resolveListing s l
  | .node n => .targets [{ node := n, listing := none, unknown := false, excepted := false }] {}
  | .category c => resolveCategory s c
  | .exit => resolveExit s originZone

/-! ## The start event (R54, R55) -/

/-- The origin node of an entry: a screen's point node as its declaration stands, or the node named (R55 step 2). -/
def originNode (s : State) : Origin → Option Nat
  | .screen n => (s.screens[n]).map fun c => c.decl.point
  | .node n => some n

/-- The zone of an origin node. -/
def originZoneOf (s : State) (o : Option Nat) : Option (Fin 32) := o.bind s.map.nodeZone

/-- The attempt that a start event begins (R55). -/
def beginAttempt (s : State) (e : Entry) (n : Nat) : Attempt :=
  let o := originNode s e.origin
  { entry := e, number := n, changed := false, origin := o
    resolution := resolve s e.dest (originZoneOf s o), view := viewOf s e.profile (originZoneOf s o) }

/-- The completion follows the start event at once: resolution failed, or the origin is in the set (R55). -/
def Attempt.immediate (a : Attempt) : Bool :=
  match a.resolution with
  | .failed _ => true
  | .targets set _ =>
    match a.origin with
    | none => false
    | some o => set.any fun t => t.node == o

/-- The found path of an attempt (R60), when resolution succeeded and a path exists. -/
def Attempt.path (a : Attempt) : Option Path :=
  match a.resolution with
  | .failed _ => none
  | .targets set _ =>
    match a.origin with
    | none => none
    | some o => foundPath a.view o (set.map Target.node)

/-! ## Results (R46, R63, R65, R72) -/

/-- A result that carries no path: outcome and flags alone (R46, R72). -/
def emptyResult (s : State) (e : Entry) (o : RouteOutcome) (flags : List RouteFlag) : RouteResult :=
  { id := e.id, screen := e.origin.screen?, cls := e.cls, outcome := o, flags := flags, listing := none
    arrival := none, cost := 0, eta := 0, generation := s.map.generation, legs := [] }

/-- The arrival node of a path: its last node, or the origin for the path of no segments (R61). -/
def arrivalOf (origin : Nat) (p : Path) : Nat := ((p.getLast?).map Hop.dst).getD origin

/-- The member of the destination set at a node. -/
def targetAt (set : List Target) (n : Nat) : Option Target := set.find? fun t => t.node == n

/-- A DELIVERED result (R61, R63, R65, R71, R72). -/
def deliveredResult (s : State) (e : Entry) (origin : Nat) (set : List Target) (f : ResFlags) (p : Path) (cost : Nat)
    (unsettled : Bool) : RouteResult :=
  let t := targetAt set (arrivalOf origin p)
  { id := e.id, screen := e.origin.screen?, cls := e.cls, outcome := .delivered
    flags := deliveredFlags e f p t unsettled, listing := t.bind Target.listing
    arrival := some (arrivalOf origin p), cost := cost, eta := etaOf cost, generation := s.map.generation
    legs := legsOf s.map p }

/-- The result of a completion that finds CHANGED clear (R63). -/
def settledResult (s : State) (a : Attempt) : RouteResult :=
  match a.resolution with
  | .failed o => emptyResult s a.entry o []
  | .targets set f =>
    match a.path with
    | none => emptyResult s a.entry .noRoute f.list
    | some p => deliveredResult s a.entry (a.origin.getD 0) set f p (heldSum (p.map Hop.cost)) false

/-- A segment of a found path is usable from the inputs as they stand now (R65). -/
def hopUsableNow (s : State) (a : Attempt) (h : Hop) : Bool :=
  match s.map.segs.get h.seg with
  | none => false
  | some g => g.usable s a.entry.profile (originZoneOf s a.origin)

/-- The cost of a segment of a found path from the inputs as they stand now (R65). -/
def hopCostNow (s : State) (a : Attempt) (h : Hop) : Nat :=
  match s.map.segs.get h.seg with
  | none => 0
  | some g => g.cost s a.entry.profile

/-- The result of a third attempt's completion that finds CHANGED set (R65). -/
def checkedResult (s : State) (a : Attempt) : RouteResult :=
  match a.resolution with
  | .failed o => emptyResult s a.entry o [.unsettled]
  | .targets set f =>
    match a.path with
    | none => emptyResult s a.entry .noRoute (f.list ++ [.unsettled])
    | some p =>
      if p.all (hopUsableNow s a) then
        deliveredResult s a.entry (a.origin.getD 0) set f p (heldSum (p.map (hopCostNow s a))) true
      else emptyResult s a.entry .noRouteUnsettled (f.list ++ [.unsettled])

/-! ## Posting an outcome (R46, R66, R149) -/

/-- The outcomes of R67 and R46: the entry was ended before its own completion. -/
def RouteOutcome.isAbort : RouteOutcome → Bool
  | .superseded | .cancelled | .withdrawn | .evacCancelled | .evacEnded | .serviceStopped => true
  | .delivered | .noRoute | .noRouteUnsettled | .noDestination | .unresolvedMove | .noExit => false

/-- The outcomes that the FAILURES counter counts (R66 step 2, R111). -/
def RouteOutcome.isFailure : RouteOutcome → Bool
  | .noRoute | .noRouteUnsettled | .noExit => true
  | .delivered | .noDestination | .unresolvedMove | .superseded | .cancelled | .withdrawn | .evacCancelled
  | .evacEnded | .serviceStopped => false

/-- A result posted without UNSETTLED and not by an abort clears the screen's due flag (R147, R149). -/
def RouteResult.clearsDue (r : RouteResult) : Bool := !r.outcome.isAbort && !r.flags.contains .unsettled

/-- Hand an outcome to the screen's session and, for an EVACUATION entry, to evacuation control (R46, R66 step 3). -/
def State.handOutcome (s : State) (r : RouteResult) : State :=
  match r.screen with
  | none => s
  | some n =>
    match r.cls with
    | .normal => s.modifySession n (Session.takeOutcome r.id r.outcome)
    | .evacuation =>
      let s1 := s.modifySession n (Session.takeEvacResult r.id r.outcome)
      if r.clearsDue then s1.setDue n false else s1

/-- Count a failure outcome (R66 step 2). -/
def State.countFailure (s : State) (o : RouteOutcome) : State :=
  if o.isFailure then s.withWatches { s.watches with failures := satInc 65535 s.watches.failures } else s

/-- A unit posts the outcome of its entry and becomes IDLE (R66); the arbiter follows in `State.settle`. -/
def State.postFromUnit (s : State) (u : UnitName) (r : RouteResult) : State :=
  let s1 := ((s.post (.routeResult r)).countFailure r.outcome).handOutcome r
  s1.withUnits (s1.units.set u none)

/-- The queue posts the outcome of an entry it has removed (R46). -/
def State.postFromQueue (s : State) (o : RouteOutcome) (e : Entry) : State :=
  let r := emptyResult s e o []
  (s.post (.routeResult r)).handOutcome r

/-- Remove from the queue every entry that satisfies a test, head to tail, each with its ROUTE_RESULT (R46). -/
def State.endQueued (s : State) (test : Entry → Bool) (o : RouteOutcome) : State :=
  (s.queue.entries.filter test).foldl (fun s e => s.postFromQueue o e)
    (s.withQueue { s.queue with entries := s.queue.entries.filter fun e => !test e })

/-- Abort the attempt in a unit when its entry satisfies a test (R67). -/
def State.abortUnit (s : State) (u : UnitName) (test : Entry → Bool) (o : RouteOutcome) : State :=
  match s.units.get u with
  | none => s
  | some a => if test a.entry then s.postFromUnit u (emptyResult s a.entry o []) else s

/-- End every entry that satisfies a test, the queue's head to tail, then unit A's, then unit B's (R48, R51). -/
def State.endEntries (s : State) (test : Entry → Bool) (o : RouteOutcome) : State :=
  ((s.endQueued test o).abortUnit .a test o).abortUnit .b test o

/-! ## Grants and start events (R50, R54, R55) -/

/-- A start event in a unit (R55); a completion that follows at once is taken with it, CHANGED being clear (R63). -/
def State.startAttempt (s : State) (u : UnitName) (e : Entry) (n : Nat) : State :=
  let a := beginAttempt s e n
  let s1 := s.withUnits (s.units.set u (some a))
  if a.immediate then s1.postFromUnit u (settledResult s1 a) else s1

/-- The arbiter removes the head entry and grants it to a unit (R50, R54). -/
def State.grant (s : State) (u : UnitName) : State :=
  match s.queue.entries with
  | [] => s
  | e :: rest => (s.withQueue { s.queue with entries := rest }).startAttempt u e 1

/-! ## Route ids, joining and the sweep (R41, R43, R52, R148) -/

/-- The route ids of the outcomes still outstanding (R41). -/
def State.outstandingIds (s : State) : List Nat :=
  s.queue.entries.map Entry.id ++ s.units.entries.map Entry.id ++ s.port.notices.filterMap Notice.resultId?

/-- The first id, from a value on, wrapping, that no id of a list is; at most `fuel` steps. -/
def freshId (taken : List Nat) : Nat → Nat → Nat
  | 0, n => n
  | fuel + 1, n => if taken.contains n then freshId taken fuel (wrapInc 65536 n) else n

/-- The route id that the next accepted entry takes (R41). -/
def State.takeId (s : State) : Nat := freshId s.outstandingIds s.outstandingIds.length s.queue.nextId

/-- An entry joins the queue behind the last of its class, EVACUATION before NORMAL (R43). -/
def joinQueue (entries : List Entry) (e : Entry) : List Entry :=
  match e.cls with
  | .normal => entries ++ [e]
  | .evacuation =>
    entries.takeWhile (fun x => x.cls == .evacuation) ++ e :: entries.dropWhile (fun x => x.cls == .evacuation)

/-- An accepted entry takes its id, joins the queue, and the outstanding count increases by one (R38, R40, R41, R52). -/
def State.accept (s : State) (origin : Origin) (dest : Dest) (p : Profile) (c : EntryClass) : State :=
  let e : Entry := { id := s.takeId, origin := origin, dest := dest, profile := p, cls := c }
  s.withQueue { entries := joinQueue s.queue.entries e, nextId := wrapInc 65536 s.takeId
                outstanding := s.queue.outstanding + 1 }

/-- The screen needs an evacuation route and has no EVACUATION entry queued or in a unit (R148 condition 1). -/
def State.sweepable (s : State) (n : Fin 48) : Bool :=
  s.screens[n].isSome && s.evac.due[n] && !s.evacEntryQueued n && !s.evacEntryInUnit n

/-- The screen the sweep would take now: the lowest that is due, while the queue and the allowance have room (R148). -/
def State.sweepNext (s : State) : Option (Fin 48) :=
  if s.evacActive && s.queue.entries.length < 16 && s.queue.outstanding < 24 then
    (List.finRange 48).find? fun n => s.sweepable n
  else none

/-- The sweep makes an EVACUATION entry for a screen and clears its due flag (R52, R148). -/
def State.sweepOne (s : State) (n : Fin 48) : State :=
  (s.accept (.screen n) .exit .evacuation .evacuation).setDue n false

/-! ## The arbiter and the sweep at work -/

/-- An IDLE unit for the head of the queue: A before B (R50). -/
def State.freeUnit (s : State) : Option UnitName :=
  match s.units.a, s.units.b with
  | none, _ => some .a
  | some _, none => some .b
  | some _, some _ => none

/-- One act of the arbiter, or failing that one of the sweep; `none` when neither can act. -/
def State.settleStep (s : State) : Option State :=
  match s.queue.entries, s.freeUnit with
  | _ :: _, some u => some (s.grant u)
  | _, _ =>
    match s.sweepNext with
    | some n => some (s.sweepOne n)
    | none => none

/-- Acts until none can be made, at most `fuel` of them. -/
def State.settleLoop : Nat → State → State
  | 0, s => s
  | fuel + 1, s =>
    match s.settleStep with
    | none => s
    | some s' => State.settleLoop fuel s'

/-- A bound on the acts that can follow one event: each grant takes an entry from the queue, each act of the sweep adds one
and takes one of the 24 outcomes of the allowance. -/
def State.settleFuel (s : State) : Nat := s.queue.entries.length + 2 * (24 - s.queue.outstanding) + 1

/-- The arbiter and the sweep act until neither can (R50, R148), the arbiter first, within the event that gives them work:
DEDUCED (log entry 15). -/
def State.settle (s : State) : State := State.settleLoop s.settleFuel s

/-! ## The completion event (R63 to R66) -/

/-- The completion event of an attempt: delivery, a retry in place, or the third attempt's check. -/
def State.completeAttempt (s : State) (u : UnitName) (a : Attempt) : State :=
  if a.changed then
    if a.number < 3 then s.startAttempt u a.entry (a.number + 1) else s.postFromUnit u (checkedResult s a)
  else s.postFromUnit u (settledResult s a)

/-- The completion event of a unit; an IDLE unit has none (R68). -/
def State.complete (s : State) (u : UnitName) : State :=
  match s.units.get u with
  | none => s
  | some a => (s.completeAttempt u a).settle

/-! ## The bump with its sweep -/

/-- A bump event with what it brings at once: the flags of R22, and while evacuation is ACTIVE the sweep (R148), before any
later step of the event that bumps: DEDUCED (log entry 15). -/
def State.bump (s : State) : State :=
  if s.inService && s.evacActive then s.bumpCore.settle else s.bumpCore

/-- A bump event under its condition (R21). -/
def State.bumpIf (s : State) (b : Bool) : State := if b then s.bump else s

/-! ## Ending one entry of a screen (R44, R45, R49) -/

/-- The id of the screen's NORMAL entry, queued or in a unit (R44: there is at most one). -/
def State.screenEntry? (s : State) (n : Fin 48) : Option Nat :=
  ((s.queue.entries ++ s.units.entries).find? (Entry.ofScreen .normal n)).map Entry.id

/-- End the screen's NORMAL entry, in the queue or in its unit, and let the arbiter act on a unit so freed (R45, R49). -/
def State.endScreenEntry (s : State) (n : Fin 48) (o : RouteOutcome) : State :=
  if (s.screenEntry? n).isSome then (s.endEntries (Entry.ofScreen .normal n) o).settle else s

end Sys2Proof.Machine
end

