-- ==== Sys2Proof/Machine/HostOps.lean ====
section
/-!
DEFINITION. The command handler (R165): how a request that is taken leaves the handler's hands, and how its reply is given to
the transmitter. Every request's meaning is `respond` over the effect and answer of its owning block.
-/

namespace Sys2Proof.Machine

/-- The handler takes the head line whenever it holds no line of its own (R165). -/
def Port.refill (p : Port) : Port :=
  match p.hand, p.input with
  | none, l :: rest => { p with hand := some l, input := rest }
  | _, _ => p

/-- Whether a line is what a command carries out: the line reads as that request, or it is the line of UNKNOWN_VERB. -/
def readsAs (line : Text) (c : Instr) : Bool :=
  match c with
  | .unknownVerb l => l == line
  | _ => readLine line == .request c

/-- The command that the handler carries out for a line: the request it reads as, or UNKNOWN_VERB's row for a line that is not
well formed (R164, R165). -/
def lineCommand (line : Text) : Instr :=
  match readLine line with
  | .request c => c
  | .noTag | .unknownVerb _ | .badField _ => .unknownVerb line

/-- The line in the handler's hands that a command answers is answered, and the handler takes the next (R165). A request that
is not the line held is one that reached the handler with nothing held (log entry 3). -/
def Port.answered (p : Port) (c : Instr) : Port :=
  match p.hand with
  | none => p
  | some l => if readsAs l c then { p with hand := none }.refill else p

/-- The request `c` is in the handler's hands. -/
def State.taken (s : State) (c : Instr) : State := s.withPort (s.port.answered c)

/-- Give a request's answer to the transmitter under its tag (R165, R166). -/
def State.reply (s : State) (tag : Nat) (a : Answer) : State := s.withPort (s.port.give ⟨tag, a⟩)

/-- One request: its effects on every block and the forming of its reply are one event (R165). -/
def respond (c : Instr) (tag : Nat) (s : State) (effect : State → State × Answer) :
    Host.Outcome State Fault Refusal :=
  .next ((effect (s.taken c)).1.reply tag (effect (s.taken c)).2)

end Sys2Proof.Machine
end

