-- ==== Sys2Proof/Machine/HoursOps.lean ====
section
/-!
DEFINITION. Opening hours: how a week schedule is read at a weekday and minute (R155), and the schedule state it gives (R8).
-/

namespace Sys2Proof.Machine

/-- The weekday before (R155). -/
def dayBefore (d : Fin 7) : Fin 7 := d + 6

/-- The first test of R155, on the day's own entry. -/
def openToday (e : DayEntry) (t : Nat) : Bool :=
  match e with
  | .closed => false
  | .window o c => (o < c && o ≤ t && t < c) || (c < o && o ≤ t)

/-- The second test of R155, on the entry of the day before. -/
def openFromYesterday (e : DayEntry) (t : Nat) : Bool :=
  match e with
  | .closed => false
  | .window o c => c < o && t < c

/-- A schedule is OPEN at weekday `d` and minute `t` when either test holds (R155). -/
def openAt (week : Vector DayEntry 7) (d : Fin 7) (t : Nat) : Bool :=
  openToday week[d] t || openFromYesterday week[dayBefore d] t

/-- The schedule state at a weekday and minute (R155). -/
def schedAt (week : Vector DayEntry 7) (d : Fin 7) (t : Nat) : SchedState :=
  if openAt week d t then .opened else .closed

/-- The schedule state evaluated against the day clock: UNKNOWN while it is UNSET (R8). -/
def schedNow (clock : Option DayTime) (week : Vector DayEntry 7) : SchedState :=
  match clock with
  | none => .unknown
  | some c => schedAt week c.weekday c.minute

end Sys2Proof.Machine
end

