-- ==== Sys2Proof/Machine/MapStore.lean ====
section
/-!
DEFINITION. The map store's requests (chapter 1): nodes, segments, lift waits, listings, overrides, directory queries,
screens and MAP-CLEAR. START and STOP are in Machine/Service.lean. Each meaning is `respond` over an effect;
the checks of each effect stand in the order of R2: mode, ranges, agreement, existence.
-/

namespace Sys2Proof.Machine

/-- The mode check of a request that LOAD alone takes (R1). -/
def inLoad (s : State) : Bool × Answer := (s.map.mode == .load, .no .wrongMode)

/-- A range check (R2). -/
def inRange (b : Bool) : Bool × Answer := (b, .no .outOfRange)

/-- An agreement check (R2). -/
def agrees (b : Bool) : Bool × Answer := (b, .no .conflict)

/-- An existence check (R2). -/
def exists? (b : Bool) : Bool × Answer := (b, .no .notFound)

/-- The GEN field of a dynamic edit's reply: the generation as it stands after the edit (R2). -/
def genField (s : State) : Key × Val := (.gen, .num s.map.generation)

/-! ## Nodes (R3) -/

/-- The ranges of a NODE request's fields (R3). -/
def nodeInRange (index : Nat) (a : NodeArgs) : Bool :=
  index ≤ 2047 && a.level.all levelOk && optLe 31 a.zone && a.label.all labelOk && optLe 1 a.remove && optLe 1 a.read

/-- No field but INDEX and the form flags is given (R3). -/
def nodeAlone (a : NodeArgs) : Bool := { a with remove := none, read := none } == ({} : NodeArgs)

/-- The record a put forms; a put needs KIND and LEVEL (R3). -/
def nodeRecord? (a : NodeArgs) : Option Node :=
  match a.kind, a.level with
  | some k, some l => some { kind := k, level := l, zone := optFin 32 a.zone, label := a.label }
  | _, _ => none

/-- NODE as a put (R3). -/
def nodePutEffect (index : Nat) (a : NodeArgs) (s : State) : State × Answer :=
  checked
    [inLoad s, inRange (nodeInRange index a), agrees ((nodeRecord? a).isSome && !flagSet a.remove && !flagSet a.read)] s
    fun s =>
      match nodeRecord? a with
      | none => (s, .no .conflict)
      | some n => (s.withMap { s.map with nodes := s.map.nodes.put index n }, .ok [])

/-- NODE with REMOVE=1 (R3). -/
def nodeRemoveEffect (index : Nat) (a : NodeArgs) (s : State) : State × Answer :=
  checked
    [inLoad s, inRange (nodeInRange index a), agrees (nodeAlone a && !flagSet a.read),
     exists? (s.map.nodes.get index).isSome] s
    fun s => (s.withMap { s.map with nodes := s.map.nodes.erase index }, .ok [])

/-- The fields of a node, as NODE with READ=1 returns them (R3). -/
def nodeFields (index : Nat) (n : Node) : List (Key × Val) :=
  [(.index, .num index), (.kind, .word (nodeKindWord n.kind)), (.level, .int n.level), (.zone, finOrNone n.zone),
   (.label, match n.label with | none => .word .absent | some t => .text t)]

/-- NODE with READ=1 (R3). -/
def nodeReadEffect (index : Nat) (a : NodeArgs) (s : State) : State × Answer :=
  checked [inRange (nodeInRange index a), agrees (nodeAlone a && !flagSet a.remove)] s
    fun s =>
      match s.map.nodes.get index with
      | none => (s, .no .notFound)
      | some n => (s, .ok (nodeFields index n))

/-- Defines or replaces a node record (R3). -/
def execNodePut (tag index : Nat) (args : NodeArgs) (s : State) : Host.Outcome State Fault Refusal :=
  respond (.nodePut tag index args) tag s (nodePutEffect index args)

/-- Makes a node undefined (R3). -/
def execNodeRemove (tag index : Nat) (args : NodeArgs) (s : State) : Host.Outcome State Fault Refusal :=
  respond (.nodeRemove tag index args) tag s (nodeRemoveEffect index args)

/-- Returns a node's fields (R3). -/
def execNodeRead (tag index : Nat) (args : NodeArgs) (s : State) : Host.Outcome State Fault Refusal :=
  respond (.nodeRead tag index args) tag s (nodeReadEffect index args)

/-! ## Segments (R4, R5) -/

/-- FROM and TO, where both are given, differ (R4). -/
def segEndsDiffer (a : SegArgs) : Bool :=
  match a.src, a.dst with
  | some x, some y => x != y
  | _, _ => true

/-- The ranges of a SEG request's fields (R4). -/
def segInRange (index : Nat) (a : SegArgs) : Bool :=
  index ≤ 6143 && optLe 2047 a.src && optLe 2047 a.dst && segEndsDiffer a && optWithin 1 4000 a.length
    && optWordLe 31 a.zone && optLe 15 a.group && optLe 255 a.trim && optLe 1 a.remove && optLe 1 a.read

/-- No field but INDEX and the form flags is given (R4). -/
def segAlone (a : SegArgs) : Bool := { a with remove := none, read := none } == ({} : SegArgs)

/-- The zone a put stores: the number, absent for NONE, or left out the from node's zone as it stands now (R4). -/
def segZoneNow (m : MapStore) (src : Nat) (a : SegArgs) : Option (Fin 32) :=
  match a.zone with
  | none => m.nodeZone src
  | some z => optFin 32 z

/-- The record a put forms; a put needs FROM, TO, LENGTH and KIND (R4). -/
def segRecord? (m : MapStore) (a : SegArgs) : Option Seg :=
  match a.src, a.dst, a.length, a.kind with
  | some x, some y, some l, some k =>
    some { src := x, dst := y, length := l, kind := k, zone := segZoneNow m x a, group := optFin 16 a.group
           state := a.state.getD .opened, trim := a.trim.getD 0 }
  | _, _, _, _ => none

/-- GROUP is given with KIND=LIFT alone (R4). -/
def segGroupAgrees (a : SegArgs) : Bool := a.group.isNone || a.kind == some .lift

/-- SEG as a put (R4). -/
def segPutEffect (index : Nat) (a : SegArgs) (s : State) : State × Answer :=
  checked
    [inLoad s, inRange (segInRange index a),
     agrees ((segRecord? s.map a).isSome && segGroupAgrees a && !flagSet a.remove && !flagSet a.read)] s
    fun s =>
      match segRecord? s.map a with
      | none => (s, .no .conflict)
      | some g => (s.withMap { s.map with segs := s.map.segs.put index g }, .ok [])

/-- SEG with REMOVE=1 (R4). -/
def segRemoveEffect (index : Nat) (a : SegArgs) (s : State) : State × Answer :=
  checked
    [inLoad s, inRange (segInRange index a), agrees (segAlone a && !flagSet a.read),
     exists? (s.map.segs.get index).isSome] s
    fun s => (s.withMap { s.map with segs := s.map.segs.erase index }, .ok [])

/-- The fields of a segment, as SEG with READ=1 returns them (R4). -/
def segFields (index : Nat) (g : Seg) : List (Key × Val) :=
  [(.index, .num index), (.fromSide, .num g.src), (.toSide, .num g.dst), (.length, .num g.length),
   (.kind, .word (segKindWord g.kind)), (.zone, finOrNone g.zone), (.group, finOrNone g.group),
   (.state, .word (openStateWord g.state)), (.trim, .num g.trim)]

/-- SEG with READ=1 (R4). -/
def segReadEffect (index : Nat) (a : SegArgs) (s : State) : State × Answer :=
  checked [inRange (segInRange index a), agrees (segAlone a && !flagSet a.remove)] s
    fun s =>
      match s.map.segs.get index with
      | none => (s, .no .notFound)
      | some g => (s, .ok (segFields index g))

/-- Store a segment record over the one defined at an index. -/
def State.storeSeg (s : State) (index : Nat) (g : Seg) : State :=
  s.withMap { s.map with segs := s.map.segs.put index g }

/-- SEG-STATE: a change is stored and bumps; the stored state again changes nothing (R5). -/
def segStateEffect (index : Nat) (v : OpenState) (s : State) : State × Answer :=
  checked [inRange (index ≤ 6143)] s fun s =>
    match s.map.segs.get index with
    | none => (s, .no .notFound)
    | some g =>
      let s1 := if g.state = v then s else (s.storeSeg index { g with state := v }).bump
      (s1, .ok [genField s1])

/-- SEG-TRIM: the value is stored and bumps, whether or not it differs (R5). -/
def segTrimEffect (index trim : Nat) (s : State) : State × Answer :=
  checked [inRange (index ≤ 6143 && trim ≤ 255)] s fun s =>
    match s.map.segs.get index with
    | none => (s, .no .notFound)
    | some g =>
      let s1 := (s.storeSeg index { g with trim := trim }).bump
      (s1, .ok [genField s1])

/-- Defines or replaces a segment record (R4). -/
def execSegPut (tag index : Nat) (args : SegArgs) (s : State) : Host.Outcome State Fault Refusal :=
  respond (.segPut tag index args) tag s (segPutEffect index args)

/-- Makes a segment undefined (R4). -/
def execSegRemove (tag index : Nat) (args : SegArgs) (s : State) : Host.Outcome State Fault Refusal :=
  respond (.segRemove tag index args) tag s (segRemoveEffect index args)

/-- Returns a segment's fields (R4). -/
def execSegRead (tag index : Nat) (args : SegArgs) (s : State) : Host.Outcome State Fault Refusal :=
  respond (.segRead tag index args) tag s (segReadEffect index args)

/-- Sets a segment OPEN or CLOSED (R5). -/
def execSegState (tag index : Nat) (value : OpenState) (s : State) : Host.Outcome State Fault Refusal :=
  respond (.segState tag index value) tag s (segStateEffect index value)

/-- Sets a segment's trim (R5). -/
def execSegTrim (tag index trim : Nat) (s : State) : Host.Outcome State Fault Refusal :=
  respond (.segTrim tag index trim) tag s (segTrimEffect index trim)

/-! ## Lift groups (R6) -/

/-- LIFT-WAIT with a WAIT: stored, and bumps whether or not it differs (R6). -/
def liftWaitEffect (group wait : Nat) (s : State) : State × Answer :=
  checked [inRange (wait ≤ 255)] s fun s =>
    match toFin? 16 group with
    | none => (s, .no .outOfRange)
    | some g =>
      let s1 := (s.withMap { s.map with liftWaits := s.map.liftWaits.set g wait }).bump
      (s1, .ok [genField s1])

/-- LIFT-WAIT with GROUP alone: the stored wait (R6). -/
def liftWaitReadEffect (group : Nat) (s : State) : State × Answer :=
  match toFin? 16 group with
  | none => (s, .no .outOfRange)
  | some g => (s, .ok [(.wait, .num s.map.liftWaits[g])])

/-- Stores a lift group's wait (R6). -/
def execLiftWait (tag group wait : Nat) (s : State) : Host.Outcome State Fault Refusal :=
  respond (.liftWait tag group wait) tag s (liftWaitEffect group wait)

/-- Returns a lift group's stored wait (R6). -/
def execLiftWaitRead (tag group : Nat) (s : State) : Host.Outcome State Fault Refusal :=
  respond (.liftWaitRead tag group) tag s (liftWaitReadEffect group)

/-! ## The name index (R11) -/

/-- A to Z folded to a to z; every other character as it is (00_scope section 5, R11). -/
def foldChar (c : Code) : Code := if 65 ≤ c.toNat ∧ c.toNat ≤ 90 then c + 32 else c

/-- A folded name (R11). -/
def foldName (t : Text) : Text := t.map foldChar

/-- Folded names in order: character by character by code, the shorter first where one begins the other (R11). -/
def nameLt : Text → Text → Bool
  | [], [] => false
  | [], _ :: _ => true
  | _ :: _, [] => false
  | a :: as, b :: bs => if a.toNat < b.toNat then true else if b.toNat < a.toNat then false else nameLt as bs

/-- Entries of the name index in order: by folded name, and by listing index among equal names (R11). -/
def entryLt (p q : Text × Nat) : Bool := nameLt p.1 q.1 || (p.1 == q.1 && p.2 < q.2)

/-- Insert an entry at its place in the order (R11). -/
def insertName : List (Text × Nat) → Text × Nat → List (Text × Nat)
  | [], e => [e]
  | x :: rest, e => if entryLt e x then e :: x :: rest else x :: insertName rest e

/-- Take a listing's entry out (R11). -/
def removeName (idx : List (Text × Nat)) (i : Nat) : List (Text × Nat) := idx.filter fun e => e.2 != i

/-- The name index after a put that names the listing so (R11). -/
def renameIn (idx : List (Text × Nat)) (i : Nat) (old : Option Text) (new : Text) : List (Text × Nat) :=
  if old.map foldName = some (foldName new) then idx else insertName (removeName idx i) (foldName new, i)

/-! ## Listings (R7 to R9) -/

/-- The range of a day entry: minutes to 1439, and a window's ends differ (R7). -/
def dayOk : DayEntry → Bool
  | .closed => true
  | .window o c => o ≤ 1439 && c ≤ 1439 && o != c

/-- The range of a DOORS list: one to four nodes to 2047 (R7). -/
def doorsOk (l : List Nat) : Bool := within 1 4 l.length && l.all fun d => d ≤ 2047

/-- The ranges of a LISTING request's fields (R7). -/
def listingInRange (index : Nat) (a : ListingArgs) : Bool :=
  index ≤ 1023 && a.name.all labelOk && optLe 63 a.category && a.doors.all doorsOk
    && a.days.toList.all (fun d => d.all dayOk) && optLe 1023 a.target && optLe 1 a.remove

/-- No field but INDEX and REMOVE is given (R7). -/
def listingAlone (a : ListingArgs) : Bool := { a with remove := none } == ({} : ListingArgs)

/-- The override that a word and a target name; `none` when they disagree (R7, R9). -/
def overrideOf? (w : OverrideWord) (target : Option Nat) : Option Override :=
  match w, target with
  | .relocated, some m => some (.relocated m)
  | .relocated, none => none
  | .absent, none => some .absent
  | .forcedOpen, none => some .forcedOpen
  | .forcedClosed, none => some .forcedClosed
  | .vacant, none => some .vacant
  | _, some _ => none

/-- The week schedule of a put that gives all of D0 to D6 (R7). -/
def weekOf? (days : Vector (Option DayEntry) 7) : Option (Vector DayEntry 7) :=
  if days.toList.all Option.isSome then some (mapFin (fun _ d => d.getD .closed) days) else none

/-- The record a put forms, with the schedule state evaluated at once (R8); a put needs NAME, CATEGORY and DOORS. -/
def listingRecord? (clock : Option DayTime) (demand : Nat) (a : ListingArgs) : Option Listing :=
  match a.name, a.category, a.doors, overrideOf? (a.override.getD .absent) a.target with
  | some n, some c, some ds, some o =>
    some { name := n, category := c, doors := ds, override := o, demand := demand
           hours := (weekOf? a.days).map fun w => { week := w, state := schedNow clock w } }
  | _, _, _, _ => none

/-- The demand count a put keeps: the listing's if it was defined, else 0 (R7). -/
def State.demandOf (s : State) (index : Nat) : Nat := ((s.map.listings.get index).map Listing.demand).getD 0

/-- LISTING as a put (R7, R8, R11). -/
def listingPutEffect (index : Nat) (a : ListingArgs) (s : State) : State × Answer :=
  checked
    [(weekWhole a.days, .no .badField), inLoad s, inRange (listingInRange index a),
     agrees ((listingRecord? s.clock.clock (s.demandOf index) a).isSome && a.doors.all (fun l => decide l.Nodup)
       && !flagSet a.remove)] s
    fun s =>
      match listingRecord? s.clock.clock (s.demandOf index) a with
      | none => (s, .no .conflict)
      | some l =>
        (s.withMap { s.map with
            listings := s.map.listings.put index l
            nameIndex := renameIn s.map.nameIndex index ((s.map.listings.get index).map Listing.name) l.name },
         .ok [])

/-- LISTING with REMOVE=1 (R7, R11). -/
def listingRemoveEffect (index : Nat) (a : ListingArgs) (s : State) : State × Answer :=
  checked
    [inLoad s, inRange (listingInRange index a), agrees (listingAlone a), exists? (s.map.listings.get index).isSome] s
    fun s =>
      (s.withMap { s.map with listings := s.map.listings.erase index
                              nameIndex := removeName s.map.nameIndex index }, .ok [])

/-- In SERVICE a relocation target is another listing (R9). -/
def targetApart (s : State) (listing : Nat) (target : Option Nat) : Bool := !s.inService || target != some listing

/-- In SERVICE a relocation target is defined (R9). -/
def targetDefined (s : State) (target : Option Nat) : Bool :=
  !s.inService || target.all fun m => (s.map.listings.get m).isSome

/-- OVERRIDE: the override is stored and bumps, whether or not it differs (R9). -/
def overrideEffect (listing : Nat) (w : OverrideWord) (target : Option Nat) (s : State) : State × Answer :=
  checked
    [inRange (listing ≤ 1023 && optLe 1023 target),
     agrees ((overrideOf? w target).isSome && targetApart s listing target),
     exists? ((s.map.listings.get listing).isSome && targetDefined s target)] s
    fun s =>
      match s.map.listings.get listing, overrideOf? w target with
      | some l, some o =>
        let s1 := (s.withMap { s.map with listings := s.map.listings.put listing { l with override := o } }).bump
        (s1, .ok [genField s1])
      | _, _ => (s, .no .notFound)

/-- Defines or replaces a listing (R7). -/
def execListingPut (tag index : Nat) (args : ListingArgs) (s : State) : Host.Outcome State Fault Refusal :=
  respond (.listingPut tag index args) tag s (listingPutEffect index args)

/-- Makes a listing undefined (R7). -/
def execListingRemove (tag index : Nat) (args : ListingArgs) (s : State) : Host.Outcome State Fault Refusal :=
  respond (.listingRemove tag index args) tag s (listingRemoveEffect index args)

/-- Sets a listing's override (R9). -/
def execOverride (tag listing : Nat) (value : OverrideWord) (target : Option Nat) (s : State) :
    Host.Outcome State Fault Refusal :=
  respond (.override tag listing value target) tag s (overrideEffect listing value target)

/-! ## Directory queries (R12 to R14) -/

/-- The entry's listing has the category, where one is given (R12). -/
def entryHasCategory (m : MapStore) (category : Option Nat) (e : Text × Nat) : Bool :=
  category.all fun c => (m.listings.get e.2).any fun l => l.category == c

/-- The matches of a SEARCH, in the order of the name index (R12). -/
def searchMatches (m : MapStore) (text : Text) (category : Option Nat) : List Nat :=
  (m.nameIndex.filter fun e => (foldName text).isPrefixOf e.1 && entryHasCategory m category e).map Prod.snd

/-- SEARCH: at most 16 matches past the first START (R12). -/
def searchEffect (text : Text) (category : Option Nat) (start : Nat) (s : State) : State × Answer :=
  checked [inRange (text.length ≤ 8 && optLe 63 category && start ≤ 1023)] s fun s =>
    let rest := (searchMatches s.map text category).drop start
    (s, .ok [(.found, .nums (rest.take 16)), (.more, flagVal (16 < rest.length))])

/-- The seven day entries, or SCHEDULE=NONE (R13). -/
def scheduleFields (l : Listing) : List (Key × Val) :=
  match l.hours with
  | none => [(.schedule, .word .absent)]
  | some h =>
    [(.d0, dayVal h.week[0]), (.d1, dayVal h.week[1]), (.d2, dayVal h.week[2]), (.d3, dayVal h.week[3]),
     (.d4, dayVal h.week[4]), (.d5, dayVal h.week[5]), (.d6, dayVal h.week[6])]

/-- TARGET, when the override is RELOCATED (R13). -/
def targetFields (o : Override) : List (Key × Val) :=
  match o with
  | .relocated m => [(.target, .num m)]
  | .absent | .forcedOpen | .forcedClosed | .vacant => []

/-- The fields of a LOOKUP reply (R13). -/
def lookupFields (s : State) (index : Nat) (l : Listing) : List (Key × Val) :=
  [(.listing, .num index), (.name, .text l.name), (.category, .num l.category), (.doors, .nums l.doors)]
    ++ scheduleFields l ++ [(.override, .word (overrideWord l.override))] ++ targetFields l.override
    ++ (match l.hours with | none => [] | some h => [(.sched, .word (schedWord h.state))])
    ++ [(.state, .word (effWord (s.effective l))), (.demand, .num l.demand)]

/-- LOOKUP (R13). -/
def lookupEffect (index : Nat) (s : State) : State × Answer :=
  checked [inRange (index ≤ 1023)] s fun s =>
    match s.map.listings.get index with
    | none => (s, .no .notFound)
    | some l => (s, .ok (lookupFields s index l))

/-- The listing with its demand count set to 0 (R14). -/
def Listing.zeroDemand (l : Listing) : Listing := { l with demand := 0 }

/-- DEMAND with LISTING: that listing's count, cleared once read with CLEAR=1 (R14). -/
def demandOneEffect (index : Nat) (clear : Bool) (s : State) : State × Answer :=
  match s.map.listings.get index with
  | none => (s, .no .notFound)
  | some l =>
    (if clear then s.withMap { s.map with listings := s.map.listings.put index l.zeroDemand } else s,
     .ok [(.listing, .num index), (.count, .num l.demand)])

/-- The lines of DEMAND without LISTING: each listing whose count is above 0, in ascending index (R14). -/
def demandLines (m : MapStore) : List ReplyLine :=
  (m.listings.filter fun q => 0 < q.2.demand).map fun q =>
    ⟨none, [(.listing, .num q.1), (.count, .num q.2.demand)]⟩

/-- DEMAND without LISTING; with CLEAR=1 every count is set to 0 once the lines are formed (R14). -/
def demandAllEffect (clear : Bool) (s : State) : State × Answer :=
  (if clear then
      s.withMap { s.map with listings := s.map.listings.map fun q => (q.1, q.2.zeroDemand) }
    else s,
   .okLines [] (demandLines s.map))

/-- DEMAND (R14). -/
def demandEffect (listing clear : Option Nat) (s : State) : State × Answer :=
  checked [inRange (optLe 1023 listing && optLe 1 clear)] s fun s =>
    match listing with
    | none => demandAllEffect (flagSet clear) s
    | some l => demandOneEffect l (flagSet clear) s

/-- Returns listing indices from the name index (R12). -/
def execSearch (tag : Nat) (text : Text) (category : Option Nat) (start : Nat) (s : State) :
    Host.Outcome State Fault Refusal :=
  respond (.search tag text category start) tag s (searchEffect text category start)

/-- Returns a listing's whole record and its effective state (R13). -/
def execLookup (tag listing : Nat) (s : State) : Host.Outcome State Fault Refusal :=
  respond (.lookup tag listing) tag s (lookupEffect listing)

/-- Reports and optionally clears demand counts (R14). -/
def execDemand (tag : Nat) (listing clear : Option Nat) (s : State) : Host.Outcome State Fault Refusal :=
  respond (.demand tag listing clear) tag s (demandEffect listing clear)

/-! ## Screens (R15, R124) -/

/-- The ranges of a SCREEN request's fields; IDLE is clamped (R15). -/
def screenInRange (screen : Nat) (a : ScreenArgs) : Bool :=
  screen ≤ 47 && optLe 2047 a.point && optWordLe 7 a.cadence && optLe 7 a.language && optLe 1 a.remove
    && optLe 1 a.read

/-- No field but SCREEN and the form flags is given (R15). -/
def screenAlone (a : ScreenArgs) : Bool := { a with remove := none, read := none } == ({} : ScreenArgs)

/-- The declaration a put forms; a put needs POINT (R15). -/
def screenRecord? (a : ScreenArgs) : Option ScreenDecl :=
  a.point.map fun p =>
    { point := p, cadence := a.cadence.bind (optFin 8), language := a.language.getD 0
      idleTimeout := clampTo 15 600 (a.idle.getD 90) }

/-- IDLE was given outside its range, so the value stored is clamped (R2, R15). -/
def screenClamped (a : ScreenArgs) : Bool := !optWithin 15 600 a.idle

/-- A declaration: a new screen gets a DORMANT session; a screen declared already keeps its session, with the new default
language (R15, R124). -/
def redeclare (d : ScreenDecl) : Option Screen → Screen
  | none => { decl := d, session := Session.made d }
  | some c => { decl := d, session := { c.session with language := d.language } }

/-- SCREEN as a put (R15). -/
def screenDeclareEffect (screen : Nat) (a : ScreenArgs) (s : State) : State × Answer :=
  checked
    [inLoad s, inRange (screenInRange screen a), agrees ((screenRecord? a).isSome && !flagSet a.remove && !flagSet a.read)] s
    fun s =>
      match toFin? 48 screen, screenRecord? a with
      | some n, some d =>
        (s.withScreens (modifyAt s.screens n fun o => some (redeclare d o)), .ok [(.clamped, flagVal (screenClamped a))])
      | _, _ => (s, .no .conflict)

/-- SCREEN with REMOVE=1: the screen is undeclared and its session discarded (R15, R124). -/
def screenUndeclareEffect (screen : Nat) (a : ScreenArgs) (s : State) : State × Answer :=
  checked [inLoad s, inRange (screenInRange screen a), agrees (screenAlone a && !flagSet a.read)] s
    fun s =>
      match toFin? 48 screen with
      | none => (s, .no .outOfRange)
      | some n =>
        if s.screens[n].isSome then (s.withScreens (s.screens.set n none), .ok []) else (s, .no .notFound)

/-- The fields of a declaration, as SCREEN with READ=1 returns them (R15). -/
def screenFields (n : Fin 48) (d : ScreenDecl) : List (Key × Val) :=
  [(.screen, .num n), (.point, .num d.point), (.cadence, finOrNone d.cadence), (.language, .num d.language),
   (.idle, .num d.idleTimeout)]

/-- SCREEN with READ=1 (R15). -/
def screenReadEffect (screen : Nat) (a : ScreenArgs) (s : State) : State × Answer :=
  checked [inRange (screenInRange screen a), agrees (screenAlone a && !flagSet a.remove)] s
    fun s =>
      match toFin? 48 screen with
      | none => (s, .no .outOfRange)
      | some n =>
        match s.screens[n] with
        | none => (s, .no .notFound)
        | some c => (s, .ok (screenFields n c.decl))

/-- Declares a screen (R15). -/
def execScreenDeclare (tag screen : Nat) (args : ScreenArgs) (s : State) : Host.Outcome State Fault Refusal :=
  respond (.screenDeclare tag screen args) tag s (screenDeclareEffect screen args)

/-- Undeclares a screen (R15). -/
def execScreenUndeclare (tag screen : Nat) (args : ScreenArgs) (s : State) : Host.Outcome State Fault Refusal :=
  respond (.screenUndeclare tag screen args) tag s (screenUndeclareEffect screen args)

/-- Returns a screen's declaration (R15). -/
def execScreenRead (tag screen : Nat) (args : ScreenArgs) (s : State) : Host.Outcome State Fault Refusal :=
  respond (.screenRead tag screen args) tag s (screenReadEffect screen args)

/-! ## Clearing the map (R16) -/

/-- The structural part of the map store emptied, the tables, generation and mode kept (R16). -/
def MapStore.cleared (m : MapStore) : MapStore :=
  { m with nodes := [], segs := [], listings := [], nameIndex := [], liftWaits := Vector.replicate 16 0 }

/-- MAP-CLEAR (R16). -/
def mapClearEffect (s : State) : State × Answer :=
  checked [inLoad s] s fun s =>
    ((s.withMap s.map.cleared).withScreens (Vector.replicate 48 none), .ok [])

/-- Empties the structural part of the map store (R16). -/
def execMapClear (tag : Nat) (s : State) : Host.Outcome State Fault Refusal :=
  respond (.mapClear tag) tag s mapClearEffect

end Sys2Proof.Machine
end

