-- ==== Sys2Proof/Machine/Watches.lean ====
section
/-!
DEFINITION. The watch unit (chapter 7): the evaluation that a census tick makes, firing, hold-off and alert pulses, and the
requests WATCH, WATCH-ARM, WATCH-OFF and WATCH-READ.
-/

namespace Sys2Proof.Machine

/-! ## Subjects (R110) -/

/-- The value of a subject as it stands (R110). -/
def State.subjectValue (s : State) : Subject → Nat
  | .occupancy z => (s.zone z).occupancy
  | .cls z => classColumn (s.zone z).cls
  | .gateFault g => bit s.gates[g].fault
  | .demand l => s.demandOf l
  | .failures => s.watches.failures
  | .queueDepth => s.queue.entries.length

/-- The comparison of a value with a threshold (R110). -/
def cmpHolds (c : Cmp) (value threshold : Nat) : Bool :=
  match c with
  | .atLeast => threshold ≤ value
  | .below => value < threshold

/-! ## Alert lines (R116) -/

/-- The pulse timer of a line starts from zero, and the watch becomes its owner (R116). -/
def State.pulseLine (s : State) (l : Fin 4) (w : Fin 8) : State :=
  s.withWatches { s.watches with alerts := s.watches.alerts.set l (some w) }

/-- End every pulse that a watch owns: the line goes low with no owner (R116). -/
def State.endPulses (s : State) (w : Fin 8) : State :=
  s.withWatches { s.watches with alerts := mapFin (fun _ o => if o = some w then none else o) s.watches.alerts }

/-! ## Firing (R115, R117, R118) -/

/-- The watch of the index before. -/
def watchBefore (w : Fin 8) : Option (Fin 8) := if 0 < w.val then toFin? 8 (w.val - 1) else none

/-- The watch of the next index (R118). -/
def watchAfter (w : Fin 8) : Option (Fin 8) := toFin? 8 (w.val + 1)

/-- A STAGED watch is returned to ARMED with remaining reloaded; one not STAGED is left (R118). -/
def Watch.returned (x : Watch) : Watch :=
  if x.state = .staged then { x with state := .armed, remaining := x.countBefore } else x

/-- A chained watch that fires returns its predecessor (R115, R117, R118). -/
def State.returnPredecessor (s : State) (w : Fin 8) : State :=
  if s.watches.watches[w].chained then
    match watchBefore w with
    | none => s
    | some p => s.modifyWatch p Watch.returned
  else s

/-- A WAITING watch becomes ARMED, with its remaining as it stands (R118). -/
def Watch.staged (x : Watch) : Watch := if x.state = .waiting then { x with state := .armed } else x

/-- Set a zone's closed flag (R100); a change is a bump of its own. -/
def State.setClosed (s : State) (z : Fin 32) (b : Bool) : State :=
  if (s.zone z).closed = b then s else (s.modifyZone z fun x => { x with closed := b }).bump

/-- The flag and the notice with which a watch fires: steps 1 and 2 of R115 and R117. -/
def State.reportFiring (s : State) (w : Fin 8) (action : WatchAction) (value : Nat) (closedNow : Bool) : State :=
  (s.modifyWatch w fun x => { x with occurred := true }).post (.watch w action value s.census.tick closedNow)

/-- The watch's state becomes `st`. -/
def State.watchTo (s : State) (w : Fin 8) (st : WatchState) : State := s.modifyWatch w fun x => { x with state := st }

/-- A watch fires (R115, R117, R118). -/
def State.fire (s : State) (w : Fin 8) (action : WatchAction) (value : Nat) : State :=
  match action with
  | .report => ((s.reportFiring w action value false).watchTo w .holdOff).returnPredecessor w
  | .pulse l => (((s.reportFiring w action value false).pulseLine l w).watchTo w .holdOff).returnPredecessor w
  | .freeze =>
    let s1 := s.reportFiring w action value false
    ((s1.withCensus { s1.census with frozen := true }).watchTo w .fired).returnPredecessor w
  | .apply z =>
    (((s.reportFiring w action value (!(s.zone z).closed)).setClosed z true).watchTo w .fired).returnPredecessor w
  | .stage =>
    let s1 := s.watchTo w .staged
    (match watchAfter w with
      | none => s1
      | some n => s1.modifyWatch n Watch.staged).returnPredecessor w

/-! ## Evaluation (R114) -/

/-- A watch's turn in the evaluation of a tick (R114). -/
def State.watchTurn (s : State) (w : Fin 8) : State :=
  let x := s.watches.watches[w]
  match x.state, x.subject, x.action with
  | .armed, some sub, some action =>
    if cmpHolds x.cmp (s.subjectValue sub) x.threshold then
      if x.remaining = 0 then s.fire w action (s.subjectValue sub)
      else s.modifyWatch w fun y => { y with remaining := y.remaining - 1 }
    else s
  | _, _, _ => s

/-- The watch unit's part in a census tick: each watch once, in ascending index (R114). -/
def State.evaluateWatches (s : State) : State := (List.finRange 8).foldl State.watchTurn s

/-! ## Timers of the watch unit (R116, R119) -/

/-- The state in which a watch is armed: WAITING if it is chained (R119, R120). -/
def Watch.armedState (x : Watch) : WatchState := if x.chained then .waiting else .armed

/-- A watch rearms at the end of its hold-off (R119). -/
def Watch.rearm (x : Watch) : Watch := { x with occurred := false, state := x.armedState }

/-- The hold-off timer of a watch expires (R119); it runs in HOLDOFF alone. -/
def execHoldOffExpiry (w : Fin 8) (s : State) : Host.Outcome State Fault Refusal :=
  .next (if s.watches.watches[w].state = .holdOff then s.modifyWatch w Watch.rearm else s)

/-- The pulse timer of an alert line expires: the line goes low, with no owner (R116). A stopped timer does not expire,
and a low line stays low. -/
def execPulseTimerExpiry (l : Fin 4) (s : State) : Host.Outcome State Fault Refusal :=
  .next (s.withWatches { s.watches with alerts := s.watches.alerts.set l none })

/-! ## The WATCH request (R112, R113) -/

/-- The range check of a WATCH request (R112). -/
def watchInRange (index : Nat) (a : WatchArgs) : Bool :=
  index ≤ 7 && optLe 31 a.zone && optLe 31 a.target && optLe 31 a.gate && optLe 1023 a.listing && a.threshold ≤ 65535
    && optLe 255 a.count && optLe 1 a.chained && optLe 3 a.line && optWithin 1 255 a.holdOff

/-- The subject that a request's fields name; `none` when they disagree (R112). -/
def watchSubject? (a : WatchArgs) : Option Subject :=
  match a.subject, a.zone, a.gate, a.listing with
  | .occupancy, some z, none, none => (toFin? 32 z).map .occupancy
  | .cls, some z, none, none => (toFin? 32 z).map .cls
  | .gateFault, none, some g, none => (toFin? 32 g).map .gateFault
  | .demand, none, none, some l => some (.demand l)
  | .failures, none, none, none => some .failures
  | .queueDepth, none, none, none => some .queueDepth
  | _, _, _, _ => none

/-- The action that a request's fields name; `none` when they disagree (R112). -/
def watchAction? (a : WatchArgs) : Option WatchAction :=
  match a.action, a.line, a.target with
  | .pulse, some l, none => (toFin? 4 l).map .pulse
  | .apply, none, some z => (toFin? 32 z).map .apply
  | .report, none, none => some .report
  | .freeze, none, none => some .freeze
  | .stage, none, none => some .stage
  | _, _, _ => none

/-- The chain check of R112. -/
def watchChainAgrees (index : Nat) (a : WatchArgs) : Bool :=
  !(index == 0 && flagSet a.chained) && !(index == 7 && a.action == .stage)

/-- The record that a WATCH request stores (R112, R113). -/
def watchRecord (a : WatchArgs) (sub : Subject) (action : WatchAction) : Watch :=
  { configured := true, subject := some sub, cmp := a.cmp, threshold := a.threshold, countBefore := a.count.getD 0
    remaining := a.count.getD 0, chained := flagSet a.chained, action := some action, holdOff := a.holdOff.getD 10
    state := .disabled, occurred := false }

/-- A subject's word with its ZONE, GATE or LISTING (R122). -/
def subjectFields : Subject → List (Key × Val)
  | .occupancy z => [(.subject, .word .occupancy), (.zone, .num z)]
  | .cls z => [(.subject, .word .cls), (.zone, .num z)]
  | .gateFault g => [(.subject, .word .gateFault), (.gate, .num g)]
  | .demand l => [(.subject, .word .demand), (.listing, .num l)]
  | .failures => [(.subject, .word .failures)]
  | .queueDepth => [(.subject, .word .queueDepth)]

/-- An action's word with its LINE or TARGET (R122). -/
def actionFields : WatchAction → List (Key × Val)
  | .report => [(.action, .word .report)]
  | .pulse l => [(.action, .word .pulse), (.line, .num l)]
  | .freeze => [(.action, .word .freeze)]
  | .apply z => [(.action, .word .apply), (.target, .num z)]
  | .stage => [(.action, .word .stage)]

/-- The configuration of a watch, as WATCH and WATCH-READ give it. R122 lists the fields for WATCH-READ; R113 gives no order for
the reply to WATCH, and that it takes R122's is a DESIGN CHOICE (log entry 20). -/
def configFields (x : Watch) : List (Key × Val) :=
  (match x.subject with | none => [] | some sub => subjectFields sub)
    ++ [(.cmp, .word (cmpWord x.cmp)), (.threshold, .num x.threshold), (.count, .num x.countBefore),
        (.chained, flagVal x.chained)]
    ++ (match x.action with | none => [] | some action => actionFields action)
    ++ [(.holdoff, .num x.holdOff)]

/-- WATCH (R112, R113). The reply names the watch first, then the configuration in R122's order, then STATE and
REMAINING (DESIGN CHOICE, log entry 20). -/
def watchEffect (index : Nat) (a : WatchArgs) (s : State) : State × Answer :=
  checked
    [inRange (watchInRange index a), agrees (watchSubject? a).isSome, agrees (watchAction? a).isSome,
     agrees (watchChainAgrees index a)] s
    fun s =>
      match toFin? 8 index, watchSubject? a, watchAction? a with
      | some w, some sub, some action =>
        ((s.modifyWatch w fun _ => watchRecord a sub action).endPulses w,
         .ok ([(.watch, .num index)] ++ configFields (watchRecord a sub action)
           ++ [(.state, .word .disabled), (.remaining, .num (a.count.getD 0))]))
      | _, _, _ => (s, .no .conflict)

/-- Configures a watch (R112, R113). -/
def execWatch (tag index : Nat) (args : WatchArgs) (s : State) : Host.Outcome State Fault Refusal :=
  respond (.watch tag index args) tag s (watchEffect index args)

/-! ## WATCH-ARM and WATCH-OFF (R120, R121) -/

/-- A watch that the host arms (R120). -/
def Watch.arm (x : Watch) : Watch :=
  { x with remaining := x.countBefore, occurred := false, state := x.armedState }

/-- WATCH-ARM (R120). -/
def watchArmEffect (index : Nat) (s : State) : State × Answer :=
  match toFin? 8 index with
  | none => (s, .no .outOfRange)
  | some w =>
    if s.watches.watches[w].configured then
      let x := s.watches.watches[w].arm
      (s.modifyWatch w Watch.arm,
       .ok [(.watch, .num index), (.state, .word (watchStateWord x.state)), (.remaining, .num x.remaining)])
    else (s, .no .notFound)

/-- WATCH-OFF (R121). -/
def watchOffEffect (index : Nat) (s : State) : State × Answer :=
  match toFin? 8 index with
  | none => (s, .no .outOfRange)
  | some w => ((s.watchTo w .disabled).endPulses w, .ok [(.watch, .num index), (.state, .word .disabled)])

/-- Arms a watch (R120). -/
def execWatchArm (tag index : Nat) (s : State) : Host.Outcome State Fault Refusal :=
  respond (.watchArm tag index) tag s (watchArmEffect index)

/-- Disables a watch (R121). -/
def execWatchOff (tag index : Nat) (s : State) : Host.Outcome State Fault Refusal :=
  respond (.watchOff tag index) tag s (watchOffEffect index)

/-! ## WATCH-READ (R122) -/

/-- The subject's value as it stands, for a watch that has one (R122). -/
def valueFields (s : State) (x : Watch) : List (Key × Val) :=
  match x.subject with
  | none => []
  | some sub => [(.value, .num (s.subjectValue sub))]

/-- A watch's line (R122). -/
def watchFields (s : State) (w : Fin 8) : List (Key × Val) :=
  let x := s.watches.watches[w]
  [(.watch, .num w), (.configured, flagVal x.configured), (.state, .word (watchStateWord x.state)),
   (.remaining, .num x.remaining), (.occurred, flagVal x.occurred)]
    ++ (if x.configured then configFields x ++ valueFields s x else [])

/-- ALERT: the four alert line levels, AL0 first (R122). -/
def alertField (s : State) : Key × Val := (.alert, .nums ((List.finRange 4).map fun l => bit (s.alertHigh l)))

/-- WATCH-READ (R122). -/
def watchReadEffect (index : Option Nat) (s : State) : State × Answer :=
  match index with
  | none => (s, .okLines [alertField s] ((List.finRange 8).map fun w => ⟨none, watchFields s w⟩))
  | some i =>
    match toFin? 8 i with
    | none => (s, .no .outOfRange)
    | some w => (s, .ok (watchFields s w ++ [alertField s]))

/-- Returns watches (R122). -/
def execWatchRead (tag : Nat) (index : Option Nat) (s : State) : Host.Outcome State Fault Refusal :=
  respond (.watchRead tag index) tag s (watchReadEffect index)

end Sys2Proof.Machine
end

