-- ==== Sys2Proof/Machine/Census.lean ====
section
/-!
DEFINITION. The census (chapter 6): zone configuration, the census tick, closures, the host's corrections, the history ring
and the zone readings.
-/

namespace Sys2Proof.Machine

/-! ## The ZONE request (R92, R93) -/

/-- The record with the fields given stored, each otherwise kept; HOLD is clamped to 1 to 60 (R92). -/
def Zone.given (z : Zone) (a : ZoneArgs) : Zone :=
  { z with busyAt := a.busy.getD z.busyAt, crowdedAt := a.crowded.getD z.crowdedAt, margin := a.margin.getD z.margin
           hold := clampTo 1 60 (a.hold.getD z.hold) }

/-- The margin is at most busy-at less 1 (R92). -/
def Zone.clampMargin (z : Zone) : Zone := { z with margin := min z.margin (z.busyAt - 1) }

/-- The checks of the ZONE request's values, as they would be stored (R92). -/
def zoneInRange (index : Nat) (z : Zone) (a : ZoneArgs) : Bool :=
  index ≤ 31 && optLe 1 a.enable && within 1 9998 (z.given a).busyAt && (z.given a).crowdedAt ≤ 9999
    && (z.given a).busyAt < (z.given a).crowdedAt && optLe 999 a.margin

/-- A value was clamped: HOLD as given, or the margin that would be stored (R92). -/
def Zone.clamps (z : Zone) (a : ZoneArgs) : Bool :=
  !optWithin 1 60 a.hold || (z.given a).busyAt - 1 < (z.given a).margin

/-- The thresholds, margin and hold of two records agree. -/
def Zone.sameLimits (x y : Zone) : Bool :=
  x.busyAt == y.busyAt && x.crowdedAt == y.crowdedAt && x.margin == y.margin && x.hold == y.hold

/-- Store the limits; a difference sets the below count to 0 (R92). -/
def Zone.storeLimits (z : Zone) (a : ZoneArgs) : Zone :=
  let z1 := (z.given a).clampMargin
  if z.sameLimits z1 then z1 else { z1 with below := 0 }

/-- ENABLE=1 (R93). -/
def Zone.turnOn (z : Zone) : Zone :=
  match z.enable with
  | .enabled => z
  | .disabling | .disabled => { z with enable := .enabled, below := 0 }

/-- ENABLE=0 (R93). -/
def Zone.turnOff (z : Zone) : Zone :=
  match z.enable with
  | .disabled | .disabling => z
  | .enabled => { z with enable := if z.cls = .clear then .disabled else .disabling, below := 0 }

/-- The ENABLE field (R93). -/
def Zone.setEnable (z : Zone) (e : Option Nat) : Zone :=
  match e with
  | none => z
  | some n => if n = 1 then z.turnOn else z.turnOff

/-- The record that a ZONE request leaves (R92, R93). -/
def Zone.configure (z : Zone) (a : ZoneArgs) : Zone := (z.storeLimits a).setEnable a.enable

/-- The fields of a zone, as ZONE and ZONE-READ give them (R92, R107). -/
def zoneFields (index : Nat) (z : Zone) : List (Key × Val) :=
  [(.zone, .num index), (.enable, .word (enableWord z.enable)), (.occ, .num z.occupancy),
   (.cls, .word (classWord z.cls)), (.below, .num z.below), (.closed, flagVal z.closed), (.est, flagVal z.estimated),
   (.busy, .num z.busyAt), (.crowded, .num z.crowdedAt), (.margin, .num z.margin), (.hold, .num z.hold)]

/-- ZONE (R92). The rule asks for every field of the record and CLAMPED; that ZONE comes first, the record as R107 lists it
and CLAMPED last is a DESIGN CHOICE (log entry 20). -/
def zoneEffect (index : Nat) (a : ZoneArgs) (s : State) : State × Answer :=
  match toFin? 32 index with
  | none => (s, .no .outOfRange)
  | some z =>
    checked [inRange (zoneInRange index (s.zone z) a)] s fun s =>
      (s.modifyZone z fun r => r.configure a,
       .ok (zoneFields index ((s.zone z).configure a) ++ [(.clamped, flagVal ((s.zone z).clamps a))]))

/-- Configures a zone (R92). -/
def execZone (tag index : Nat) (args : ZoneArgs) (s : State) : Host.Outcome State Fault Refusal :=
  respond (.zone tag index args) tag s (zoneEffect index args)

/-! ## The census period (R94) -/

/-- CENSUS-PERIOD with PERIOD (R94). -/
def censusPeriodEffect (period : Nat) (s : State) : State × Answer :=
  (s.withCensus { s.census with period := clampTo 1 60 period },
   .ok [(.period, .num (clampTo 1 60 period)), (.clamped, flagVal (!within 1 60 period))])

/-- CENSUS-PERIOD without PERIOD (R94). -/
def censusPeriodReadEffect (s : State) : State × Answer := (s, .ok [(.period, .num s.census.period)])

/-- Stores the census period (R94). -/
def execCensusPeriod (tag period : Nat) (s : State) : Host.Outcome State Fault Refusal :=
  respond (.censusPeriod tag period) tag s (censusPeriodEffect period)

/-- Returns the census period (R94). -/
def execCensusPeriodRead (tag : Nat) (s : State) : Host.Outcome State Fault Refusal :=
  respond (.censusPeriodRead tag) tag s censusPeriodReadEffect

/-! ## Class evaluation (R96, R97) -/

/-- One step down. -/
def classDown : ZoneClass → ZoneClass
  | .clear => .clear
  | .busy => .clear
  | .crowded => .busy

/-- The rise target (R96 step 1). -/
def Zone.riseTarget (z : Zone) : ZoneClass :=
  if z.crowdedAt ≤ z.occupancy then .crowded else if z.busyAt ≤ z.occupancy then .busy else .clear

/-- The release condition of the class; CLEAR has none (R96 step 3). -/
def Zone.releases (z : Zone) : Bool :=
  match z.cls with
  | .clear => false
  | .busy => z.occupancy < z.busyAt - z.margin
  | .crowded => z.occupancy < z.crowdedAt - z.margin

/-- An ENABLED zone is classed (R96). -/
def Zone.classify (z : Zone) : Zone :=
  if classColumn z.cls < classColumn z.riseTarget then { z with cls := z.riseTarget, below := 0 }
  else if z.releases then
    if z.below + 1 = z.hold then { z with cls := (classDown z.cls), below := 0 } else { z with below := z.below + 1 }
  else { z with below := 0 }

/-- A DISABLING zone is brought down (R97). -/
def Zone.bringDown (z : Zone) : Zone :=
  { z with cls := (classDown z.cls), enable := if (classDown z.cls) = .clear then .disabled else z.enable }

/-- Step 2 of a tick for one zone (R95). -/
def Zone.tick (z : Zone) : Zone :=
  match z.enable with
  | .enabled => z.classify
  | .disabling => z.bringDown
  | .disabled => z

/-! ## The census tick (R95) -/

/-- The ZONE_CLASS notices of a change of classes, in ascending zone order (R95, R103). -/
def classNotices (before after : Vector Zone 32) (tick : Nat) : List Notice :=
  (List.finRange 32).filterMap fun z =>
    if before[z].cls = after[z].cls then none else some (.zoneClass z before[z].cls after[z].cls tick)

/-- The record that a tick pushes (R104). -/
def historyRecord (c : Census) : HistoryRecord :=
  { tick := c.tick, occupancy := c.zones.toList.map Zone.occupancy, cls := c.zones.toList.map Zone.cls
    estimated := c.zones.toList.map Zone.estimated }

/-- A record joins the ring as its newest, the oldest leaving a ring of 64 (R104). -/
def pushRecord (ring : List HistoryRecord) (r : HistoryRecord) : List HistoryRecord :=
  if ring.length < 64 then ring ++ [r] else ring.drop 1 ++ [r]

/-- Step 5: the tick's record is pushed into a ring not frozen (R95, R104). -/
def Census.record (c : Census) : Census := if c.frozen then c else { c with ring := pushRecord c.ring (historyRecord c) }

/-- Steps 1 and 2: the tick counter and the classing of every zone (R95). -/
def Census.classed (c : Census) : Census :=
  { c with tick := wrapInc 65536 c.tick, zones := mapFin (fun _ z => z.tick) c.zones }

/-- Post the notices of a change of classes, and bump when there is one (R95 steps 3 and 4, R103). -/
def State.reportClasses (s : State) (before : Vector Zone 32) : State :=
  let ns := classNotices before s.census.zones s.census.tick
  (s.postAll ns).bumpIf !ns.isEmpty

/-- A census tick (R95). -/
def State.censusTick (s : State) : State :=
  let s1 := (s.withCensus s.census.classed).reportClasses s.census.zones
  (s1.withCensus s1.census.record).evaluateWatches

/-- The period timer has run for the period: a census tick (R94, R95). -/
def execCensusTick (s : State) : Host.Outcome State Fault Refusal := .next s.censusTick

/-! ## Closures (R100) -/

/-- ZONE-CLOSE and ZONE-OPEN (R100). -/
def closureEffect (index : Nat) (b : Bool) (s : State) : State × Answer :=
  match toFin? 32 index with
  | none => (s, .no .outOfRange)
  | some z => (s.setClosed z b, .ok [(.zone, .num index), (.closed, flagVal b), genField (s.setClosed z b)])

/-- Sets a zone's closed flag (R100). -/
def execZoneClose (tag index : Nat) (s : State) : Host.Outcome State Fault Refusal :=
  respond (.zoneClose tag index) tag s (closureEffect index true)

/-- Clears a zone's closed flag (R100). -/
def execZoneOpen (tag index : Nat) (s : State) : Host.Outcome State Fault Refusal :=
  respond (.zoneOpen tag index) tag s (closureEffect index false)

/-! ## Corrections (R102, R103) -/

/-- OCCUPANCY (R102). -/
def occupancyEffect (index n : Nat) (s : State) : State × Answer :=
  match toFin? 32 index with
  | none => (s, .no .outOfRange)
  | some z =>
    (s.modifyZone z fun r => { r with occupancy := min 9999 n, estimated := false },
     .ok [(.zone, .num index), (.occ, .num (min 9999 n)), (.clamped, flagVal (9999 < n))])

/-- Corrects a zone's occupancy (R102). -/
def execOccupancy (tag index n : Nat) (s : State) : Host.Outcome State Fault Refusal :=
  respond (.occupancy tag index n) tag s (occupancyEffect index n)

/-- A zone as CENSUS-ZERO leaves it (R103). -/
def Zone.zeroed (z : Zone) : Zone :=
  { z with occupancy := 0, below := 0, cls := .clear, estimated := false
           enable := match z.enable with | .disabling => .disabled | .enabled => .enabled | .disabled => .disabled }

/-- The census as CENSUS-ZERO leaves it (R103). -/
def Census.zeroed (c : Census) : Census := { c with zones := mapFin (fun _ z => z.zeroed) c.zones }

/-- CENSUS-ZERO (R103). -/
def censusZeroEffect (s : State) : State × Answer :=
  let s1 := (s.withCensus s.census.zeroed).reportClasses s.census.zones
  (s1, .ok [(.changed, .num (classNotices s.census.zones s.census.zeroed.zones s.census.tick).length), genField s1])

/-- Clears occupancies and classes (R103). -/
def execCensusZero (tag : Nat) (s : State) : Host.Outcome State Fault Refusal :=
  respond (.censusZero tag) tag s censusZeroEffect

/-! ## The history ring (R105, R106) -/

/-- HISTORY-RESUME (R105). -/
def historyResumeEffect (s : State) : State × Answer :=
  (s.withCensus { s.census with frozen := false },
   .ok [(.frozen, .num 0), (.count, .num s.census.ring.length)])

/-- The records from the one a HISTORY request begins at, and whether the reply carries RESTART=1 (R106). -/
def historyFrom (ring : List HistoryRecord) (next : Option Nat) : List HistoryRecord × Bool :=
  match next with
  | none => (ring, false)
  | some t =>
    match ring.dropWhile fun r => r.tick != t with
    | [] => (ring, true)
    | r :: rest => (r :: rest, false)

/-- A record's line (R106). -/
def recordLine (r : HistoryRecord) : ReplyLine :=
  ⟨none, [(.tick, .num r.tick), (.occ, .nums r.occupancy), (.cls, .words (r.cls.map classWord)),
          (.est, .nums (r.estimated.map bit))]⟩

/-- The fields of the first line past FROZEN: MORE, and NEXT with MORE=1 (R106). -/
def moreFields (rest : List HistoryRecord) : List (Key × Val) :=
  match rest with
  | [] => [(.more, .num 0)]
  | r :: _ => [(.more, .num 1), (.next, .num r.tick)]

/-- HISTORY (R106). That RESTART=1 stands last on the first line, after MORE and NEXT, is a DESIGN CHOICE (log entry 20); on an
empty ring log entry 23 holds. -/
def historyEffect (next : Option Nat) (s : State) : State × Answer :=
  checked [inRange (optLe 65535 next)] s fun s =>
    let f := historyFrom s.census.ring next
    (s, .okLines ([(.count, .num s.census.ring.length), (.frozen, flagVal s.census.frozen)] ++ moreFields (f.1.drop 8)
                   ++ (if f.2 then [(.restart, .num 1)] else []))
          ((f.1.take 8).map recordLine))

/-- Unfreezes the history ring (R105). -/
def execHistoryResume (tag : Nat) (s : State) : Host.Outcome State Fault Refusal :=
  respond (.historyResume tag) tag s historyResumeEffect

/-- Returns up to 8 history records (R106). -/
def execHistory (tag : Nat) (next : Option Nat) (s : State) : Host.Outcome State Fault Refusal :=
  respond (.history tag next) tag s (historyEffect next)

/-! ## ZONE-READ (R107) -/

/-- ZONE-READ (R107). -/
def zoneReadEffect (index : Option Nat) (s : State) : State × Answer :=
  match index with
  | none =>
    (s, .okLines [(.tick, .num s.census.tick)]
          ((List.finRange 32).map fun (z : Fin 32) => ⟨none, zoneFields z (s.zone z)⟩))
  | some i =>
    match toFin? 32 i with
    | none => (s, .no .outOfRange)
    | some z => (s, .ok (zoneFields i (s.zone z)))

/-- Returns zones (R107). -/
def execZoneRead (tag : Nat) (index : Option Nat) (s : State) : Host.Outcome State Fault Refusal :=
  respond (.zoneRead tag index) tag s (zoneReadEffect index)

end Sys2Proof.Machine
end

