-- ==== Sys2Proof/Machine/Evacuation.lean ====
section
/-!
DEFINITION. Evacuation control (chapter 9): the entry and exit events, the EVAC_IN line, and the requests EVAC and EVAC-END.
-/

namespace Sys2Proof.Machine

/-! ## Shared steps -/

/-- Post an EVAC notice with the state, line level and generation as they stand (R152). -/
def State.postEvac (s : State) (cause : EvacCause) : State :=
  s.post (.evac s.evac.state cause s.evac.debounced s.map.generation)

/-- Change the evacuation state. -/
def State.evacTo (s : State) (st : EvacState) : State := s.withEvac { s.evac with state := st }

/-- Drive EVAC_ACK. -/
def State.setAck (s : State) (b : Bool) : State := s.withEvac { s.evac with ack := b }

/-- Clear every due flag (R150, R151). -/
def State.clearDue (s : State) : State := s.withEvac { s.evac with due := Vector.replicate 48 false }

/-- Set the due flag of every declared screen (R146 step 6). -/
def State.dueAll (s : State) : State :=
  s.withEvac { s.evac with due := mapFin (fun n d => d || s.screens[n].isSome) s.evac.due }

/-- No expiry of a cadence timer follows any more at this timebase second. -/
def CadenceTimer.noExpiry (t : CadenceTimer) : CadenceTimer := { t with due := false }

/-- The cadence timers are held: no field of the manual's changes, and none expires (R146 step 4, R160). -/
def State.holdTimers (s : State) : State :=
  s.withClock { s.clock with timers := mapFin (fun _ t => t.noExpiry) s.clock.timers }

/-! ## The entry and exit events (R146, R150) -/

/-- The entry event (R146), the sweep acting at its end (R148). -/
def State.entryEvent (s : State) (cause : EvacCause) : State :=
  let s1 := s.evacTo .active
  let s2 := s1.endEntries (fun e => e.cls == .normal) .evacCancelled
  let s3 := s2.mapSessions fun _ ses => ses.toAlert
  let s5 := s3.holdTimers.bumpCore
  ((s5.dueAll.postEvac cause).setAck true).settle

/-- The exit event (R150). -/
def State.exitEvent (s : State) : State :=
  let s1 := s.evacTo .inactive
  let s3 := (s1.endEntries (fun e => e.cls == .evacuation) .evacEnded).clearDue
  let s6 := (s3.mapSessions Session.leaveAlert).bumpCore
  ((s6.postEvac .ended).setAck false).settle

/-- What a rise of EVAC_IN or an EVAC request does, by the engine mode and the evacuation state (R143, R144). -/
def State.raiseEvac (s : State) (cause : EvacCause) : State :=
  match s.evac.state with
  | .inactive => if s.inService then s.entryEvent cause else (s.evacTo .pending).postEvac cause
  | .active | .pending => s

/-! ## The alarm line (R142, R143) -/

/-- The line has been high for 500 ms against a clear debounced level: a rise (R142, R143). With no such change maturing
there is no rise. -/
def execEvacInRise (s : State) : Host.Outcome State Fault Refusal :=
  .next (if s.evac.line && !s.evac.debounced then
      (s.withEvac { s.evac with debounced := true }).raiseEvac .line
    else s)

/-- A fall outside INACTIVE posts a notice (R143). -/
def State.fallEvac (s : State) : State :=
  match s.evac.state with
  | .inactive => s
  | .active | .pending => s.postEvac .lineLow

/-- The line has been low for 500 ms against an asserted debounced level: a fall (R142, R143). With no such change maturing
there is no fall. -/
def execEvacInFall (s : State) : Host.Outcome State Fault Refusal :=
  .next (if !s.evac.line && s.evac.debounced then (s.withEvac { s.evac with debounced := false }).fallEvac else s)

/-- The EVAC_IN line takes a level; its debouncer begins or drops a maturing change (R142). -/
def execEvacInLineChange (high : Bool) (s : State) : Host.Outcome State Fault Refusal :=
  .next (s.withEvac { s.evac with line := high })

/-! ## EVAC and EVAC-END (R144, R145) -/

/-- The number of due flags set (R144). -/
def State.dueCount (s : State) : Nat := s.evac.due.toList.countP id

/-- EVAC (R144). -/
def evacEffect (s : State) : State × Answer :=
  let s1 := s.raiseEvac .host
  (s1, .ok [(.state, .word (evacStateWord s1.evac.state)), (.line, flagVal s1.evac.debounced), (.due, .num s1.dueCount),
            genField s1])

/-- EVAC-END taken in PENDING (R145). -/
def State.endPending (s : State) : State := (((s.evacTo .inactive).clearDue).setAck false).postEvac .ended

/-- EVAC-END (R145). -/
def evacEndEffect (s : State) : State × Answer :=
  checked [(s.evac.state != .inactive, .no .notActive), (!s.evac.debounced, .no .evacLine)] s fun s =>
    let s1 := match s.evac.state with
      | .active => s.exitEvent
      | .pending => s.endPending
      | .inactive => s
    (s1, .ok [(.state, .word .inactive), (.line, .num 0), genField s1])

/-- Enters evacuation, or makes it PENDING in LOAD (R144). -/
def execEvac (tag : Nat) (s : State) : Host.Outcome State Fault Refusal := respond (.evac tag) tag s evacEffect

/-- Leaves evacuation (R145). -/
def execEvacEnd (tag : Nat) (s : State) : Host.Outcome State Fault Refusal := respond (.evacEnd tag) tag s evacEndEffect

end Sys2Proof.Machine
end

