-- ==== Sys2Proof/Machine/Clock.lean ====
section
/-!
DEFINITION. The clock block (chapter 10): the timebase second, minute boundaries, the day clock's requests, and the cadence
timers with their requests.
-/

namespace Sys2Proof.Machine

/-! ## Minute boundaries (R156) -/

/-- A listing's schedule state set at a weekday and minute; a listing without a schedule is as it was (R156 step 2). -/
def Listing.evaluate (d : Fin 7) (t : Nat) (l : Listing) : Listing :=
  { l with hours := l.hours.map fun h => { h with state := schedAt h.week d t } }

/-- The number of listings whose effective state the boundary changes, the clock having been SET or not before it (R156 steps
1 and 3). -/
def changedCount (wasSet : Bool) (d : Fin 7) (t : Nat) (ls : Table Listing) : Nat :=
  ls.countP fun q => q.2.effective wasSet != (q.2.evaluate d t).effective true

/-- A minute boundary at the weekday and minute of a clock value, which the clock takes (R156). -/
def State.minuteBoundary (s : State) (now : DayTime) (byClock : Bool) : State :=
  let count := changedCount s.clock.clock.isSome now.weekday now.minute s.map.listings
  let s1 := s.withClock { s.clock with clock := some now }
  let s2 := s1.withMap { s1.map with
    listings := s1.map.listings.map fun q => (q.1, q.2.evaluate now.weekday now.minute) }
  if count = 0 then s2
  else
    let s3 := s2.bump
    s3.post (.hours count now.weekday now.minute byClock s3.map.generation)

/-! ## The day clock (R153, R154) -/

/-- The clock value one second on (R153). -/
def DayTime.next (c : DayTime) : DayTime :=
  if c.second < 59 then { c with second := c.second + 1 }
  else if c.minute < 1439 then { c with second := 0, minute := c.minute + 1 }
  else { weekday := c.weekday + 1, minute := 0, second := 0 }

/-- The second moves the minute (R153). -/
def DayTime.endsMinute (c : DayTime) : Bool := !(c.second < 59)

/-- A SET clock advances by one second (R153). -/
def State.advanceClock (s : State) : State :=
  match s.clock.clock with
  | none => s
  | some c => if c.endsMinute then s.minuteBoundary c.next false else s.withClock { s.clock with clock := some c.next }

/-- CLOCK (R154). -/
def clockEffect (weekday minute : Nat) (second : Option Nat) (s : State) : State × Answer :=
  checked [inRange (minute ≤ 1439 && optLe 59 second)] s fun s =>
    match toFin? 7 weekday with
    | none => (s, .no .outOfRange)
    | some d =>
      let now : DayTime := { weekday := d, minute := minute, second := second.getD 0 }
      let s1 := s.minuteBoundary now true
      (s1, .ok [(.weekday, .num weekday), (.minute, .num minute), (.second, .num now.second),
                (.changed, .num (changedCount s.clock.clock.isSome d minute s.map.listings)), genField s1])

/-- CLOCK-READ (R154). -/
def clockReadEffect (s : State) : State × Answer :=
  match s.clock.clock with
  | none => (s, .ok [(.clock, .word .isUnset)])
  | some c =>
    (s, .ok [(.clock, .word .isSet), (.weekday, .num c.weekday), (.minute, .num c.minute), (.second, .num c.second)])

/-- Sets the day clock (R154). -/
def execClock (tag weekday minute : Nat) (second : Option Nat) (s : State) : Host.Outcome State Fault Refusal :=
  respond (.clock tag weekday minute second) tag s (clockEffect weekday minute second)

/-- Returns the day clock (R154). -/
def execClockRead (tag : Nat) (s : State) : Host.Outcome State Fault Refusal :=
  respond (.clockRead tag) tag s clockReadEffect

/-! ## A period's expiry (R158, R159) -/

/-- A ONCE timer at its last page halts (R158 step 2). -/
def CadenceTimer.ends (t : CadenceTimer) : Bool := t.mode == .once && t.pages ≤ t.page + 1

/-- Steps 1 and 2 of R158. -/
def CadenceTimer.stepPage (t : CadenceTimer) : CadenceTimer :=
  if t.ends then { t with count := 0, due := false, state := .halt, setting := .halt }
  else { t with count := 0, due := false, page := (t.page + 1) % t.pages }

/-- A follower that runs (R159). -/
def CadenceTimer.follows (t : CadenceTimer) : Bool := t.role == .follower && t.state == .run

/-- A running follower is resynchronised to the master's page (R159). -/
def CadenceTimer.resync (page : Nat) (t : CadenceTimer) : CadenceTimer :=
  if t.follows then { t with count := 0, page := page % t.pages, due := false } else t

/-- Every running follower is resynchronised, in ascending index, each with its notice (R159). -/
def State.resyncFollowers (s : State) (page : Nat) : State :=
  (List.finRange 8).foldl
    (fun s (k : Fin 8) =>
      if s.clock.timers[k].follows then
        (s.modifyTimer k (CadenceTimer.resync page)).post (.cadence k (page % s.clock.timers[k].pages) true false)
      else s) s

/-- A timer's period expires (R158). -/
def State.expirePeriod (s : State) (t : Fin 8) : State :=
  let old := s.clock.timers[t]
  let s1 := (s.modifyTimer t CadenceTimer.stepPage).post (.cadence t old.stepPage.page false old.ends)
  if old.role = .master then s1.resyncFollowers old.stepPage.page else s1

/-- The expiry of a timer whose count has reached its period; there is none otherwise (R158). -/
def State.takeExpiry (s : State) (t : Fin 8) : State := if s.clock.timers[t].due then s.expirePeriod t else s

/-- A counting cadence timer's count reaches its period (R158). -/
def execCadencePeriodExpiry (t : Fin 8) (s : State) : Host.Outcome State Fault Refusal := .next (s.takeExpiry t)

/-! ## The timebase second (R153, R158) -/

/-- A counting timer's count increases by one; where it would reach the period, the expiry falls due (R158). -/
def CadenceTimer.count1 (t : CadenceTimer) : CadenceTimer :=
  if t.count + 1 < t.period then { t with count := t.count + 1 } else { t with due := true }

/-- The cadence timers count: those in RUN, in SERVICE, while evacuation is not ACTIVE (R157). -/
def State.countTimers (s : State) : State :=
  if s.inService && !s.evacActive then
    s.withClock { s.clock with timers := mapFin (fun _ t => if t.state = .run then t.count1 else t) s.clock.timers }
  else s

/-- One more second of the timebase on a running idle timer, at most its timeout (R133). -/
def IdleTimer.second (t : IdleTimer) : IdleTimer := { t with seconds := min t.timeout (t.seconds + 1) }

/-- The idle timers run (R133). -/
def State.countIdle (s : State) : State :=
  s.mapSessions fun _ ses => { ses with idle := ses.idle.map IdleTimer.second }

/-- One second of the 1 Hz timebase (R153, R158). Expiries of the second before that were not taken yet are taken first (log
entry 12). -/
def execTimebaseSecond (s : State) : Host.Outcome State Fault Refusal :=
  .next ((((List.finRange 8).foldl State.takeExpiry s).advanceClock).countTimers.countIdle)

/-! ## Cadence requests (R161, R162) -/

/-- The fields of a timer, as CADENCE gives them. R161 asks for every field and gives neither their names nor their order: the
names are those of the requests' fields and of R162's reply, TIMER first, the configuration, then RUN, STATE, PAGE and
COUNT (DESIGN CHOICE, log entry 20). -/
def timerFields (index : Nat) (t : CadenceTimer) : List (Key × Val) :=
  [(.timer, .num index), (.period, .num t.period), (.pages, .num t.pages), (.mode, .word (cadenceModeWord t.mode)),
   (.role, .word (cadenceRoleWord t.role)), (.run, .word (runWord t.setting)), (.state, .word (runWord t.state)),
   (.page, .num t.page), (.count, .num t.count)]

/-- Another timer than `t` is MASTER (R161). -/
def State.otherMaster (s : State) (t : Fin 8) : Bool :=
  (List.finRange 8).any fun (k : Fin 8) => k != t && s.clock.timers[k].role == .master

/-- A timer as a configuration leaves it (R161). -/
def CadenceTimer.configure (t : CadenceTimer) (a : CadenceArgs) : CadenceTimer :=
  { t with period := (a.period.map (clampTo 5 600)).getD t.period, pages := a.pages.getD t.pages
           mode := a.mode.getD t.mode, role := a.role.getD t.role, count := 0, page := 0, due := false }

/-- CADENCE with a field beside TIMER (R161). -/
def cadenceEffect (index : Nat) (a : CadenceArgs) (s : State) : State × Answer :=
  match toFin? 8 index with
  | none => (s, .no .outOfRange)
  | some t =>
    checked [inRange (optWithin 1 16 a.pages), agrees !(a.role == some .master && s.otherMaster t)] s fun s =>
      (s.modifyTimer t fun x => x.configure a,
       .ok (timerFields index (s.clock.timers[t].configure a) ++ [(.clamped, flagVal (!optWithin 5 600 a.period))]))

/-- CADENCE with TIMER alone (R161). -/
def cadenceReadEffect (index : Nat) (s : State) : State × Answer :=
  match toFin? 8 index with
  | none => (s, .no .outOfRange)
  | some t => (s, .ok (timerFields index s.clock.timers[t]))

/-- The reply to CADENCE-RUN and CADENCE-HALT (R162). -/
def runAnswer (index : Nat) (t : CadenceTimer) : Answer :=
  .ok [(.timer, .num index), (.run, .word (runWord t.setting)), (.state, .word (runWord t.state)), (.page, .num t.page),
       (.count, .num t.count)]

/-- A timer that the host runs (R162). -/
def CadenceTimer.runFrom (t : CadenceTimer) (inService restart : Bool) : CadenceTimer :=
  let t1 := { t with setting := .run, state := if inService then .run else t.state }
  if restart then { t1 with count := 0, page := 0, due := false } else t1

/-- CADENCE-RUN (R162). -/
def cadenceRunEffect (index : Nat) (restart : Option Nat) (s : State) : State × Answer :=
  checked [inRange (optLe 1 restart)] s fun s =>
    match toFin? 8 index with
    | none => (s, .no .outOfRange)
    | some t =>
      (s.modifyTimer t fun x => x.runFrom s.inService (flagSet restart),
       runAnswer index (s.clock.timers[t].runFrom s.inService (flagSet restart)))

/-- A timer that the host halts (R162). -/
def CadenceTimer.haltByHost (t : CadenceTimer) : CadenceTimer := { t with setting := .halt, state := .halt, due := false }

/-- CADENCE-HALT (R162). -/
def cadenceHaltEffect (index : Nat) (s : State) : State × Answer :=
  match toFin? 8 index with
  | none => (s, .no .outOfRange)
  | some t => (s.modifyTimer t CadenceTimer.haltByHost, runAnswer index s.clock.timers[t].haltByHost)

/-- Configures a cadence timer (R161). -/
def execCadence (tag timer : Nat) (args : CadenceArgs) (s : State) : Host.Outcome State Fault Refusal :=
  respond (.cadence tag timer args) tag s (cadenceEffect timer args)

/-- Returns a cadence timer (R161). -/
def execCadenceRead (tag timer : Nat) (s : State) : Host.Outcome State Fault Refusal :=
  respond (.cadenceRead tag timer) tag s (cadenceReadEffect timer)

/-- Runs a cadence timer (R162). -/
def execCadenceRun (tag timer : Nat) (restart : Option Nat) (s : State) : Host.Outcome State Fault Refusal :=
  respond (.cadenceRun tag timer restart) tag s (cadenceRunEffect timer restart)

/-- Halts a cadence timer (R162). -/
def execCadenceHalt (tag timer : Nat) (s : State) : Host.Outcome State Fault Refusal :=
  respond (.cadenceHalt tag timer) tag s (cadenceHaltEffect timer)

end Sys2Proof.Machine
end

