-- ==== Sys2Proof/Machine/CostTables.lean ====
section
/-!
DEFINITION. The requests that write and read the pace table (R24) and the multiplier table (R26).
-/

namespace Sys2Proof.Machine

/-! ## The pace table (R23, R24) -/

/-- The pace entry of EVACUATION and LIFT is held at 0 (R23). -/
def paceHeld (p : Profile) (k : SegKind) : Bool := p == .evacuation && k == .lift

/-- The value that a PACE write stores (R24). -/
def paceStored (p : Profile) (k : SegKind) (value : Nat) : Nat := if paceHeld p k then 0 else value

/-- The pace table with one entry written. -/
def MapStore.setPace (m : MapStore) (p : Profile) (k : SegKind) (v : Nat) : MapStore :=
  { m with pace := modifyAt m.pace (profileRow p) fun row => row.set (kindColumn k) v }

/-- PACE with VALUE: stored, and bumps where the stored value differs from the one before (R24). -/
def paceWriteEffect (p : Profile) (kind : Option SegKind) (value : Nat) (s : State) : State × Answer :=
  checked [inRange (value ≤ 255)] s fun s =>
    match kind with
    | none => (s, .no .conflict)
    | some k =>
      let v := paceStored p k value
      let s1 := (s.withMap (s.map.setPace p k v)).bumpIf (v != s.map.paceOf p k)
      (s1, .ok [(.profile, .word (profileWord p)), (.kind, .word (segKindWord k)), (.value, .num v),
                (.clamped, flagVal (v != value)), genField s1])

/-- PACE without VALUE: one entry, or with PROFILE alone the row (R24). -/
def paceReadEffect (p : Profile) (kind : Option SegKind) (s : State) : State × Answer :=
  match kind with
  | none => (s, .ok [(.values, .nums s.map.pace[profileRow p].toList)])
  | some k => (s, .ok [(.value, .num (s.map.paceOf p k))])

/-- Writes one entry of the pace table (R24). -/
def execPaceWrite (tag : Nat) (profile : Profile) (kind : Option SegKind) (value : Nat) (s : State) :
    Host.Outcome State Fault Refusal :=
  respond (.paceWrite tag profile kind value) tag s (paceWriteEffect profile kind value)

/-- Returns an entry or a row of the pace table (R24). -/
def execPaceRead (tag : Nat) (profile : Profile) (kind : Option SegKind) (s : State) :
    Host.Outcome State Fault Refusal :=
  respond (.paceRead tag profile kind) tag s (paceReadEffect profile kind)

/-! ## The multiplier table (R25, R26) -/

/-- The value that a MULT write stores: at least 16 (R26). -/
def multStored (value : Nat) : Nat := max 16 value

/-- The multiplier table with one entry written. -/
def MapStore.setMult (m : MapStore) (p : Profile) (c : ZoneClass) (v : Nat) : MapStore :=
  { m with mult := modifyAt m.mult (profileRow p) fun row => row.set (classColumn c) v }

/-- MULT with VALUE: stored, and bumps where the stored value differs from the one before (R26). -/
def multWriteEffect (p : Profile) (cls : Option ZoneClass) (value : Nat) (s : State) : State × Answer :=
  checked [inRange (value ≤ 255)] s fun s =>
    match cls with
    | none => (s, .no .conflict)
    | some c =>
      let v := multStored value
      let s1 := (s.withMap (s.map.setMult p c v)).bumpIf (v != s.map.multOf p c)
      (s1, .ok [(.profile, .word (profileWord p)), (.cls, .word (classWord c)), (.value, .num v),
                (.clamped, flagVal (v != value)), genField s1])

/-- MULT without VALUE: one entry, or with PROFILE alone the row (R26). -/
def multReadEffect (p : Profile) (cls : Option ZoneClass) (s : State) : State × Answer :=
  match cls with
  | none => (s, .ok [(.values, .nums s.map.mult[profileRow p].toList)])
  | some c => (s, .ok [(.value, .num (s.map.multOf p c))])

/-- Writes one entry of the multiplier table (R26). -/
def execMultWrite (tag : Nat) (profile : Profile) (cls : Option ZoneClass) (value : Nat) (s : State) :
    Host.Outcome State Fault Refusal :=
  respond (.multWrite tag profile cls value) tag s (multWriteEffect profile cls value)

/-- Returns an entry or a row of the multiplier table (R26). -/
def execMultRead (tag : Nat) (profile : Profile) (cls : Option ZoneClass) (s : State) :
    Host.Outcome State Fault Refusal :=
  respond (.multRead tag profile cls) tag s (multReadEffect profile cls)

end Sys2Proof.Machine
end

