-- ==== Sys2Proof/Machine/Gates.lean ====
section
/-!
DEFINITION. The gate block (chapter 5): beam lines and debouncers, the decoding of beam and pair events, crossings, the
stuck and recovery timers, and the GATE and GATE-READ requests.
-/

namespace Sys2Proof.Machine

/-! ## Beams (R76) -/

/-- One beam of a gate. -/
def Gate.beam (g : Gate) : Beam → BeamInput
  | .a => g.a
  | .b => g.b

/-- Put one beam of a gate. -/
def Gate.setBeam (g : Gate) : Beam → BeamInput → Gate
  | .a, x => { g with a := x }
  | .b, x => { g with b := x }

/-- A change of the line is maturing: the line stands opposite the debounced level (R76). -/
def BeamInput.maturing (b : BeamInput) : Bool := b.line != b.debounced

/-- The maturing change matures: the debounced level takes the line's (R76). -/
def BeamInput.mature (b : BeamInput) : BeamInput := { b with debounced := b.line }

/-- The input line takes a level; a change begins to mature, or a maturing one is dropped (R76). -/
def BeamInput.setLine (b : BeamInput) (high : Bool) : BeamInput := { b with line := high }

/-- A beam is blocked under an invert field (R76). -/
def BeamInput.blocked (b : BeamInput) (invert : Bool) : Bool := b.debounced != invert

/-- The pair of levels of a gate, A first: `true` is blocked (R77). -/
def Gate.levels (g : Gate) : Bool × Bool := (g.a.blocked g.invert, g.b.blocked g.invert)

/-! ## Decoding (R78, R80, R81) -/

/-- A crossing (R82). -/
inductive Crossing where
  | inbound | outbound
deriving DecidableEq, Repr

/-- A TWO_WAY gate's states by levels (A, B), as the rows of R78 give them; FAULT takes no transition. -/
def nextState : GateState → Bool × Bool → GateState
  | .clear, (true, false) => .enterA
  | .clear, (false, true) => .enterB
  | .clear, (true, true) => .midUnknown
  | .enterA, (true, false) | .midA, (true, false) | .leaveA, (true, false) => .enterA
  | .enterA, (false, true) | .midA, (false, true) | .leaveA, (false, true) => .leaveA
  | .enterA, (true, true) | .midA, (true, true) | .leaveA, (true, true) => .midA
  | .enterB, (true, false) | .midB, (true, false) | .leaveB, (true, false) => .leaveB
  | .enterB, (false, true) | .midB, (false, true) | .leaveB, (false, true) => .enterB
  | .enterB, (true, true) | .midB, (true, true) | .leaveB, (true, true) => .midB
  | .midUnknown, (true, false) => .leaveB
  | .midUnknown, (false, true) => .leaveA
  | .midUnknown, (true, true) => .midUnknown
  | .fault, _ => .fault
  | _, (false, false) => .clear

/-- The crossing that a cell of R78 names: from a LEAVE state to (0,0). -/
def crossingAt : GateState → Bool × Bool → Option Crossing
  | .leaveA, (false, false) => some .inbound
  | .leaveB, (false, false) => some .outbound
  | _, _ => none

/-- ONE_WAY takes no OUTBOUND crossing (R80). -/
def oneWayCrossing (c : Option Crossing) : Option Crossing :=
  match c with
  | some .outbound => none
  | x => x

/-- The crossings of an event at a PULSE gate, from the levels before and after it: INBOUND for a clear of A, then OUTBOUND
for a clear of B (R81). -/
def pulseCrossings (before after : Bool × Bool) : List Crossing :=
  (if before.1 && !after.1 then [.inbound] else []) ++ (if before.2 && !after.2 then [.outbound] else [])

/-- The state and the crossings that an event gives a gate that decodes, by its mode (R77, R78, R80, R81). -/
def decodeEvent (mode : GateMode) (st : GateState) (before after : Bool × Bool) : GateState × List Crossing :=
  match mode with
  | .off => (st, [])
  | .twoWay => (nextState st after, (crossingAt st after).toList)
  | .oneWay => (nextState st after, (oneWayCrossing (crossingAt st after)).toList)
  | .pulse => (.clear, pulseCrossings before after)

/-! ## Crossings (R82) -/

/-- One person enters a zone: clamped at 9,999, the clamp setting ESTIMATED. -/
def Zone.enter (z : Zone) : Zone :=
  if z.occupancy < 9999 then { z with occupancy := z.occupancy + 1 } else { z with estimated := true }

/-- One person leaves a zone: clamped at 0, the clamp setting ESTIMATED. -/
def Zone.leave (z : Zone) : Zone :=
  if 0 < z.occupancy then { z with occupancy := z.occupancy - 1 } else { z with estimated := true }

/-- Change the zone on a side of a gate; OUTSIDE has no occupancy. -/
def State.modifySide (s : State) (side : Option (Fin 32)) (f : Zone → Zone) : State :=
  match side with
  | none => s
  | some z => s.modifyZone z f

/-- A crossing of gate `g` (R82). -/
def State.cross (s : State) (g : Fin 32) (c : Crossing) : State :=
  match c with
  | .inbound =>
    ((s.modifySide s.gates[g].dst Zone.enter).modifySide s.gates[g].src Zone.leave).modifyGate g
      fun r => { r with inbound := satInc 65535 r.inbound }
  | .outbound =>
    ((s.modifySide s.gates[g].dst Zone.leave).modifySide s.gates[g].src Zone.enter).modifyGate g
      fun r => { r with outbound := satInc 65535 r.outbound }

/-! ## Beam and pair events (R77, R83, R85) -/

/-- A beam's stuck timer after an event: started by a block, stopped by a clear, otherwise as it was (R83). -/
def BeamInput.stuckAfter (b : BeamInput) (limit : Nat) (before after : Bool) : BeamInput :=
  if after && !before then { b with stuck := some limit }
  else if before && !after then { b with stuck := none }
  else b

/-- The stuck timers of both beams after an event (R83). -/
def Gate.stuckAfter (g : Gate) (before after : Bool × Bool) : Gate :=
  { g with a := g.a.stuckAfter g.stuckLimit before.1 after.1, b := g.b.stuckAfter g.stuckLimit before.2 after.2 }

/-- A gate takes a beam or pair event, given its record with the new debounced levels; gives the record after it and the
crossings it completes (R77, R83, R85). -/
def Gate.take (old new : Gate) : Gate × List Crossing :=
  if new.mode = .off then (new, [])
  else if new.state = .fault then ({ new with recovery := new.levels == (false, false) }, [])
  else
    ({ new.stuckAfter old.levels new.levels with
         state := (decodeEvent new.mode new.state old.levels new.levels).1 },
     (decodeEvent new.mode new.state old.levels new.levels).2)

/-- A gate takes an event that changes its debounced levels by `f` (R77). -/
def State.gateTakes (s : State) (g : Fin 32) (f : Gate → Gate) : State :=
  let r := Gate.take s.gates[g] (f s.gates[g])
  r.2.foldl (fun s c => s.cross g c) (s.modifyGate g fun _ => r.1)

/-- The change of one beam matures (R76). -/
def Gate.mature (g : Gate) (beam : Beam) : Gate := g.setBeam beam (g.beam beam).mature

/-- The change of one beam matures alone: one beam event; with none maturing there is none (R76, R77). -/
def execBeamEvent (g : Fin 32) (beam : Beam) (s : State) : Host.Outcome State Fault Refusal :=
  .next (if (s.gates[g].beam beam).maturing then s.gateTakes g fun r => r.mature beam else s)

/-- The changes of both beams of a gate mature at one sample: one pair event (R77). -/
def execPairEvent (g : Fin 32) (s : State) : Host.Outcome State Fault Refusal :=
  .next (if s.gates[g].a.maturing && s.gates[g].b.maturing then
      s.gateTakes g fun r => (r.mature .a).mature .b
    else s)

/-- A beam line takes a level; its debouncer begins or drops a maturing change (R76). -/
def execBeamLineChange (g : Fin 32) (beam : Beam) (high : Bool) (s : State) : Host.Outcome State Fault Refusal :=
  .next (s.modifyGate g fun r => r.setBeam beam ((r.beam beam).setLine high))

/-! ## FAULT and recovery (R84 to R86) -/

/-- Stop both stuck timers of a gate. -/
def Gate.stopStuck (g : Gate) : Gate := { g with a := { g.a with stuck := none }, b := { g.b with stuck := none } }

/-- The record of a gate that enters FAULT (R84). -/
def Gate.toFault (g : Gate) : Gate := { g.stopStuck with state := .fault, fault := true, recovery := false }

/-- Set a zone's ESTIMATED flag. -/
def Zone.estimate (z : Zone) : Zone := { z with estimated := true }

/-- The stuck timer of a beam expires: the gate enters FAULT (R84). A timer that is stopped does not expire. -/
def execStuckTimerExpiry (g : Fin 32) (beam : Beam) (s : State) : Host.Outcome State Fault Refusal :=
  .next (if (s.gates[g].beam beam).stuck.isSome then
      (((s.modifyGate g Gate.toFault).modifySide s.gates[g].src Zone.estimate).modifySide s.gates[g].dst
        Zone.estimate).post (.gateFault g beam s.gates[g].state)
    else s)

/-- The recovery timer of a gate expires: the gate leaves FAULT (R86). A timer that is stopped does not expire. -/
def execRecoveryTimerExpiry (g : Fin 32) (s : State) : Host.Outcome State Fault Refusal :=
  .next (if s.gates[g].recovery then
      (s.modifyGate g fun r => { r with state := .clear, recovery := false }).post (.gateClear g)
    else s)

/-! ## The GATE request (R88) -/

/-- The ranges of a GATE request's fields (R88). -/
def gateInRange (index : Nat) (a : GateArgs) : Bool :=
  index ≤ 31 && optWordLe 31 a.src && optWordLe 31 a.dst && optLe 1 a.invert && optWithin 1 255 a.stuck

/-- A side as a request leaves it stored. -/
def sideAfter (stored : Option (Fin 32)) (given : Option (Option Nat)) : Option (Fin 32) :=
  match given with
  | none => stored
  | some z => optFin 32 z

/-- Step 1 of R88: the fields given are stored. -/
def Gate.configure (g : Gate) (a : GateArgs) : Gate :=
  { g with mode := a.mode.getD g.mode, src := sideAfter g.src a.src, dst := sideAfter g.dst a.dst
           invert := (a.invert.map (· == 1)).getD g.invert, stuckLimit := a.stuck.getD g.stuckLimit }

/-- The two sides name one zone (R88). -/
def Gate.sidesClash (g : Gate) : Bool := g.src.isSome && g.src == g.dst

/-- Steps 2 to 4 of R88. -/
def Gate.restart (g : Gate) : Gate :=
  let g1 := { g.stopStuck with recovery := false, state := .clear, fault := false }
  if g1.mode = .off then g1 else g1.stuckAfter (false, false) g1.levels

/-- The levels of a gate as LEVELS gives them: A first, 1 for blocked. -/
def levelsVal (g : Gate) : Val := .nums [bit g.levels.1, bit g.levels.2]

/-- The fields of a gate record, as GATE and GATE-READ give them (R88, R89). -/
def gateFields (g : Gate) : List (Key × Val) :=
  [(.mode, .word (gateModeWord g.mode)), (.fromSide, sideVal g.src), (.toSide, sideVal g.dst),
   (.invert, flagVal g.invert), (.stuck, .num g.stuckLimit), (.state, .word (gateStateWord g.state)),
   (.levels, levelsVal g), (.inbound, .num g.inbound), (.outbound, .num g.outbound), (.fault, flagVal g.fault)]

/-- GATE (R88). Ranges are checked before agreement, which R88 does not order (DESIGN CHOICE, log entry 32); the reply puts GATE
before the fields of the record, LEVELS before IN, OUT and FAULT (DESIGN CHOICE, log entry 20). -/
def gateEffect (index : Nat) (a : GateArgs) (s : State) : State × Answer :=
  checked [inRange (gateInRange index a)] s fun s =>
    match toFin? 32 index with
    | none => (s, .no .outOfRange)
    | some g =>
      if (s.gates[g].configure a).sidesClash then (s, .no .conflict)
      else
        (s.modifyGate g fun r => (r.configure a).restart,
         .ok ((.gate, .num index) :: gateFields (s.gates[g].configure a).restart))

/-- Configures a gate (R88). -/
def execGate (tag index : Nat) (args : GateArgs) (s : State) : Host.Outcome State Fault Refusal :=
  respond (.gate tag index args) tag s (gateEffect index args)

/-! ## GATE-READ (R89) -/

/-- The clear that GATE-READ with CLEAR=1 makes: totals to 0, and the fault flag unless the gate is in FAULT (R87, R89). -/
def Gate.clearTotals (g : Gate) : Gate :=
  { g with inbound := 0, outbound := 0, fault := g.fault && g.state == .fault }

/-- The lines of GATE-READ without GATE: the gates whose mode is not OFF (R89). -/
def gateLines (s : State) : List ReplyLine :=
  ((List.finRange 32).filter fun g => s.gates[g].mode != .off).map fun (g : Fin 32) =>
    ⟨none, (.gate, .num g) :: gateFields s.gates[g]⟩

/-- GATE-READ (R89). -/
def gateReadEffect (index clear : Option Nat) (s : State) : State × Answer :=
  checked [inRange (optLe 31 index && optLe 1 clear)] s fun s =>
    match index with
    | none =>
      (if flagSet clear then s.withGates (mapFin (fun _ r => r.clearTotals) s.gates) else s, .okLines [] (gateLines s))
    | some i =>
      match toFin? 32 i with
      | none => (s, .no .outOfRange)
      | some g => (if flagSet clear then s.modifyGate g Gate.clearTotals else s, .ok (gateFields s.gates[g]))

/-- Reads gates and optionally clears their totals (R89). -/
def execGateRead (tag : Nat) (index clear : Option Nat) (s : State) : Host.Outcome State Fault Refusal :=
  respond (.gateRead tag index clear) tag s (gateReadEffect index clear)

end Sys2Proof.Machine
end

