-- ==== Sys2Proof/Machine/HostPort.lean ====
section
/-!
DEFINITION. The host port (chapter 11): characters and lines, the lines that are not well formed, FETCH, MASK, STATUS, the
transmitter, and the hard reset.
-/

namespace Sys2Proof.Machine

/-! ## Line assembly (R163) -/

/-- A printable character (codes 32 to 126) received undamaged. -/
def RxChar.good (c : RxChar) : Bool := !c.damaged && within 32 126 c.code.toNat

/-- The characters of the line: those before the LF, without a CR that stands immediately before it (R163). -/
def lineOf (rx : List RxChar) : List RxChar :=
  if rx.getLast? = some ⟨13, false⟩ then rx.dropLast else rx

/-- A complete line at the input queue: it joins the tail while fewer than 4 lines wait; otherwise it is answered BUSY and
dropped, or without a readable tag counted as a frame error (R165). -/
def Port.arrive (p : Port) (line : Text) : Port :=
  if p.input.length < 4 then { p with input := p.input ++ [line] }.refill
  else
    match lineTag? line with
    | none => p.countFrame
    | some t => p.give ⟨t, .no .busy⟩

/-- The judgement of a line at its LF (R163). -/
def Port.judge (p : Port) (line : List RxChar) : Port :=
  if line.isEmpty then p
  else if line.length ≤ 1024 && line.all RxChar.good then p.arrive (line.map RxChar.code)
  else p.countFrame

/-- An LF is received: it ends a dropped tail, or the line is judged (R163). -/
def Port.endLine (p : Port) : Port :=
  if p.dropping then { p with rx := [], dropping := false } else { p with rx := [] }.judge (lineOf p.rx)

/-- A character other than an LF received undamaged is assembled, or dropped with a discarded tail (R163). -/
def Port.assemble (p : Port) (c : RxChar) : Port := if p.dropping then p else { p with rx := p.rx ++ [c] }

/-- The assembly timer runs: from the first character of a line to its LF or its discard (R163). -/
def Port.assembling (p : Port) : Bool := !p.rx.isEmpty && !p.dropping

/-- The line in assembly is discarded, and its tail is to be dropped (R163). -/
def Port.discard (p : Port) : Port := { p with rx := [], dropping := true }.countFrame

/-- An LF ends a line (R163, R165). -/
def execLineComplete (s : State) : Host.Outcome State Fault Refusal := .next (s.withPort s.port.endLine)

/-- The assembly timer expires (R163). A timer that is stopped does not expire. -/
def execAssemblyTimerExpiry (s : State) : Host.Outcome State Fault Refusal :=
  .next (if s.port.assembling then s.withPort s.port.discard else s)

/-- A character is received on HRXD (R163). An undamaged LF is the line's end, as in `execLineComplete`. -/
def execCharacterReceived (code : Code) (damaged : Bool) (s : State) : Host.Outcome State Fault Refusal :=
  .next (s.withPort (if code = 10 ∧ damaged = false then s.port.endLine else s.port.assemble ⟨code, damaged⟩))

/-! ## Lines that are not well formed (R164) -/

/-- What the handler does with a line that is not well formed: a frame error, UNKNOWN_VERB or BAD_FIELD (R164). -/
def rejectLine (line : Text) (s : State) : State :=
  match readLine line with
  | .noTag => s.withPort s.port.countFrame
  | .unknownVerb t => s.reply t (.no .unknownVerb)
  | .badField t => s.reply t (.no .badField)
  | .request _ => s

/-- A complete line that is not well formed reaches the handler (R164). -/
def execUnknownVerb (line : Text) (s : State) : Host.Outcome State Fault Refusal :=
  .next (rejectLine line (s.taken (.unknownVerb line)))

/-! ## STATUS (R171) -/

/-- The fields of a STATUS reply (R171). -/
def statusFields (s : State) : List (Key × Val) :=
  [(.family, .word .uviaro), (.part, .word .wx320), (.rev, .word .b), (.mode, .word (engineModeWord s.map.mode)),
   (.evac, .word (evacStateWord s.evac.state)), (.gen, .num s.map.generation), (.queued, .num s.queue.entries.length),
   (.busy, .num s.units.busy), (.outstanding, .num s.queue.outstanding), (.notices, .num s.port.notices.length),
   (.lost, flagVal s.port.lost), (.frames, .num s.port.frames), (.tick, .num s.census.tick),
   (.clock, .word (if s.clock.clock.isSome then .isSet else .isUnset)), (.failures, .num s.watches.failures)]

/-- STATUS (R171). -/
def statusEffect (clear : Option Nat) (s : State) : State × Answer :=
  checked [inRange (optLe 1 clear)] s fun s =>
    (if flagSet clear then s.withWatches { s.watches with failures := 0 } else s, .ok (statusFields s))

/-- Reports the part's state (R171). -/
def execStatus (tag : Nat) (clear : Option Nat) (s : State) : Host.Outcome State Fault Refusal :=
  respond (.status tag clear) tag s (statusEffect clear)

/-! ## FETCH (R169) -/

/-- How many of some notices are ROUTE_RESULTs. -/
def resultCount (l : List Notice) : Nat := l.countP Notice.isResult

/-- The state after a FETCH has removed the notices it gives (R38, R168, R169). -/
def State.fetched (s : State) : State :=
  (s.withPort { s.port with notices := s.port.notices.drop 8, lost := false }).withQueue
    { s.queue with outstanding := s.queue.outstanding - resultCount (s.port.notices.take 8) }

/-- The reply to a FETCH (R169). -/
def fetchAnswer (p : Port) : Answer :=
  .okLines [(.more, flagVal (8 < p.notices.length)), (.lost, flagVal p.lost)] ((p.notices.take 8).map noticeLine)

/-- FETCH; the sweep may then act (R148, R169). -/
def fetchEffect (s : State) : State × Answer := (s.fetched.settle, fetchAnswer s.port)

/-- Removes and returns up to 8 notices (R169). -/
def execFetch (tag : Nat) (s : State) : Host.Outcome State Fault Refusal := respond (.fetch tag) tag s fetchEffect

/-! ## MASK (R170) -/

/-- A setting as a field gives it, or as it was. -/
def maskSet (old : Bool) (given : Option Nat) : Bool := (given.map (· == 1)).getD old

/-- The mask after a MASK request (R170). -/
def NoticeMask.update (m : NoticeMask) (a : MaskArgs) : NoticeMask :=
  { routeResult := maskSet m.routeResult a.routeResult, zoneClass := maskSet m.zoneClass a.zoneClass
    gateFault := maskSet m.gateFault a.gateFault, gateClear := maskSet m.gateClear a.gateClear
    watch := maskSet m.watch a.watch, hours := maskSet m.hours a.hours, evac := maskSet m.evac a.evac
    cadence := maskSet m.cadence a.cadence }

/-- The values of a MASK request are 0 or 1 (R170). -/
def maskInRange (a : MaskArgs) : Bool :=
  optLe 1 a.routeResult && optLe 1 a.zoneClass && optLe 1 a.gateFault && optLe 1 a.gateClear && optLe 1 a.watch
    && optLe 1 a.hours && optLe 1 a.evac && optLe 1 a.cadence

/-- All eight kinds with their settings (R170). -/
def maskFields (m : NoticeMask) : List (Key × Val) :=
  [(.routeResult, flagVal m.routeResult), (.zoneClass, flagVal m.zoneClass), (.gateFault, flagVal m.gateFault),
   (.gateClear, flagVal m.gateClear), (.watch, flagVal m.watch), (.hours, flagVal m.hours), (.evac, flagVal m.evac),
   (.cadence, flagVal m.cadence)]

/-- MASK (R170). Ranges are checked before ROUTE_RESULT=0, which R170 does not order (DESIGN CHOICE, log entry 32). -/
def maskEffect (a : MaskArgs) (s : State) : State × Answer :=
  checked [inRange (maskInRange a), agrees (a.routeResult != some 0)] s fun s =>
    (s.withPort { s.port with mask := s.port.mask.update a }, .ok (maskFields (s.port.mask.update a)))

/-- Sets the notice mask (R170). -/
def execMask (tag : Nat) (args : MaskArgs) (s : State) : Host.Outcome State Fault Refusal :=
  respond (.mask tag args) tag s (maskEffect args)

/-! ## The transmitter (R166) -/

/-- The reply being transmitted has been wholly sent (R166). With none to send nothing happens. -/
def execReplyTransmitted (s : State) : Host.Outcome State Fault Refusal :=
  .next (s.withPort { s.port with tx := s.port.tx.drop 1 })

/-! ## Hard reset -/

/-- A gate after a hard reset, its input lines where they stand (R75, R76). -/
def Gate.resetKeepingLines (g : Gate) : Gate :=
  { Gate.reset with a := { Gate.reset.a with line := g.a.line }, b := { Gate.reset.b with line := g.b.line } }

/-- A hard reset sets every piece of the part's state; the input lines are outside it, and so are the commands waiting and
the count of free values taken (00_scope section 4; log entry 13). -/
def execHardReset (s : State) : Host.Outcome State Fault Refusal :=
  .next { State.reset with
    gates := mapFin (fun _ g => g.resetKeepingLines) s.gates
    evac := { State.reset.evac with line := s.evac.line }
    free := s.free
    pending := s.pending }

end Sys2Proof.Machine
end

