-- ==== Sys2Proof/Machine/RouteRequests.lean ====
section
/-!
DEFINITION. The ROUTE and ROUTE-CANCEL requests (sections 3.1, 3.2 and R47) and the completion event of a route unit
(R63 to R66).
-/

namespace Sys2Proof.Machine

/-! ## The checks of a ROUTE request (R35, R37) -/

/-- Check 3: each field in its range; EXIT takes 1 alone (R35). -/
def routeInRange (a : RouteArgs) : Bool :=
  optLe 47 a.screen && optLe 2047 a.src && optLe 2047 a.dst && optLe 1023 a.listing && optLe 63 a.category
    && optWithin 1 1 a.exit

/-- The origin a ROUTE request names: exactly one of SCREEN and FROM (R35). -/
def routeOrigin? (a : RouteArgs) : Option Origin :=
  match a.screen, a.src with
  | some n, none => (toFin? 48 n).map .screen
  | none, some n => some (.node n)
  | _, _ => none

/-- The destination a ROUTE request names: exactly one of LISTING, TO, CATEGORY and EXIT (R35). -/
def routeDest? (a : RouteArgs) : Option Dest :=
  match a.listing, a.dst, a.category, a.exit with
  | some l, none, none, none => some (.listing l)
  | none, some n, none, none => some (.node n)
  | none, none, some c, none => some (.category c)
  | none, none, none, some _ => some .exit
  | _, _, _, _ => none

/-- The node is defined. -/
def State.nodeDefined (s : State) (n : Nat) : Bool := (s.map.nodes.get n).isSome

/-- The listing is defined. -/
def State.listingDefined (s : State) (n : Nat) : Bool := (s.map.listings.get n).isSome

/-- The screen is declared. -/
def State.declared (s : State) (n : Nat) : Bool :=
  match toFin? 48 n with
  | none => false
  | some k => s.screens[k].isSome

/-- Check 5: each thing named exists; FIELD names the first that does not (R37). -/
def existenceChecks (a : RouteArgs) (s : State) : List (Bool × Answer) :=
  [(a.screen.all s.declared, .noWith .notFound [(.field, .key .screen)]),
   (a.src.all s.nodeDefined, .noWith .notFound [(.field, .key .fromSide)]),
   (a.listing.all s.listingDefined, .noWith .notFound [(.field, .key .listing)]),
   (a.dst.all s.nodeDefined, .noWith .notFound [(.field, .key .toSide)])]

/-- The session of the screen named is not DORMANT (R37 check 6). -/
def State.awake (s : State) (o : Option Origin) : Bool :=
  match o with
  | some (.screen n) => (s.screens[n]).all fun c => c.session.state != .dormant
  | _ => true

/-- The entries the capacity check counts: those queued, but for one of the screen's own (R39). -/
def State.capacityCount (s : State) (o : Option Origin) : Nat :=
  match o with
  | some (.screen n) => (s.queue.entries.filter fun e => !Entry.ofScreen .normal n e).length
  | _ => s.queue.entries.length

/-- The checks of R37, in its order. -/
def routeChecks (a : RouteArgs) (s : State) : List (Bool × Answer) :=
  [(s.inService, .no .wrongMode), (!s.evacActive, .no .evacActive), inRange (routeInRange a),
   agrees ((routeOrigin? a).isSome && (routeDest? a).isSome)]
    ++ existenceChecks a s
    ++ [(s.awake (routeOrigin? a), .no .wrongMode),
        (s.queue.outstanding < 24, .noWith .queueFull [(.limit, .word .outcomes)]),
        (s.capacityCount (routeOrigin? a) < 16, .noWith .queueFull [(.limit, .word .queue)])]

/-! ## Acceptance (R36, R40) -/

/-- The profile an entry takes (R36). -/
def State.routeProfile (s : State) (given : Option Profile) (o : Origin) : Profile :=
  match given with
  | some p => p
  | none =>
    match o with
    | .node _ => .standard
    | .screen n => match s.screens[n] with | none => .standard | some c => c.session.profile

/-- The id of the entry that acceptance supersedes (R40 step 1, R44). -/
def State.superseded? (s : State) (o : Origin) : Option Nat :=
  match o with
  | .screen n => s.screenEntry? n
  | .node _ => none

/-- Supersede the screen's entry (R45). -/
def State.supersede (s : State) (o : Origin) : State :=
  match o with
  | .screen n => s.endScreenEntry n .superseded
  | .node _ => s

/-- One more request for a listing, saturating at 65,535 (R14). -/
def Listing.countDemand (l : Listing) : Listing := { l with demand := satInc 65535 l.demand }

/-- The demand of a LISTING destination is counted (R40 step 3). -/
def State.countDemand (s : State) (d : Dest) : State :=
  match d with
  | .listing l =>
    match s.map.listings.get l with
    | none => s
    | some r => s.withMap { s.map with listings := s.map.listings.put l r.countDemand }
  | .node _ | .category _ | .exit => s

/-- The route id is handed to the screen's session (R40 step 6, R135). -/
def State.handId (s : State) (o : Origin) (id : Nat) : State :=
  match o with
  | .screen n => s.modifySession n (Session.routeAccepted id)
  | .node _ => s

/-- Acceptance of a ROUTE request (R40). The profile is the session's as the request found it. The arbiter's grant to an IDLE
unit is taken after step 6 (log entry 11). -/
def acceptRoute (given : Option Profile) (o : Origin) (d : Dest) (s : State) : State × Answer :=
  let s1 := s.supersede o
  let id := s1.takeId
  let s2 := (s1.countDemand d).accept o d (s.routeProfile given o) .normal
  ((s2.handId o id).settle,
   .ok ([(.route, .num id), (.cls, .word .normal)]
     ++ (match s.superseded? o with | none => [] | some old => [(.superseded, .num old)])))

/-- ROUTE (R37, R40). -/
def routeEffect (a : RouteArgs) (s : State) : State × Answer :=
  checked (routeChecks a s) s fun s =>
    match routeOrigin? a, routeDest? a with
    | some o, some d => acceptRoute a.profile o d s
    | _, _ => (s, .no .conflict)

/-- Submits a route entry (R35 to R40). -/
def execRoute (tag : Nat) (args : RouteArgs) (s : State) : Host.Outcome State Fault Refusal :=
  respond (.route tag args) tag s (routeEffect args)

/-! ## ROUTE-CANCEL (R47) -/

/-- Where an entry stands. -/
inductive Place where
  | queued
  | unit (u : UnitName)
deriving DecidableEq, Repr

/-- The word of WAS (R47). -/
def placeWord : Place → Kw
  | .queued => .queued
  | .unit u => unitWord u

/-- The entry that carries an id, and where it stands. -/
def State.findEntry (s : State) (id : Nat) : Option (Entry × Place) :=
  match s.queue.entries.find? fun e => e.id == id with
  | some e => some (e, .queued)
  | none =>
    match s.units.a.filter fun a => a.entry.id == id with
    | some a => some (a.entry, .unit .a)
    | none =>
      match s.units.b.filter fun a => a.entry.id == id with
      | some a => some (a.entry, .unit .b)
      | none => none

/-- ROUTE-CANCEL (R47); the arbiter grants to a unit that it frees (R50). -/
def routeCancelEffect (id : Nat) (s : State) : State × Answer :=
  checked [inRange (id ≤ 65535)] s fun s =>
    match s.findEntry id with
    | none => (s, .no .notFound)
    | some (e, place) =>
      match e.cls with
      | .evacuation => (s, .no .evacActive)
      | .normal =>
        ((s.endEntries (fun x => x.id == id) .cancelled).settle,
         .ok [(.route, .num id), (.was, .word (placeWord place))])

/-- Removes or aborts a NORMAL entry (R47). -/
def execRouteCancel (tag id : Nat) (s : State) : Host.Outcome State Fault Refusal :=
  respond (.routeCancel tag id) tag s (routeCancelEffect id)

/-! ## The completion event (R63 to R66) -/

/-- The search time of a unit's attempt has elapsed: delivery, a retry in place, or the third attempt's check; an IDLE unit
has no completion event (R68). -/
def execCompletionEvent (u : UnitName) (s : State) : Host.Outcome State Fault Refusal := .next (s.complete u)

end Sys2Proof.Machine
end

