-- ==== Sys2Proof/Machine/Service.lean ====
section
/-!
DEFINITION. START and STOP (sections 1.9 and 1.10), with what they do in every block.
-/

namespace Sys2Proof.Machine

/-! ## Validation (R17) -/

/-- The index of the first record of a table that fails a test, in ascending index. -/
def firstBad {α : Type} (bad : α → Bool) (t : Table α) : Option Nat := (t.find? fun q => bad q.2).map Prod.fst

/-- Check 1: a from or to node is undefined. -/
def badEnds (m : MapStore) (g : Seg) : Bool := (m.nodes.get g.src).isNone || (m.nodes.get g.dst).isNone

/-- Check 2: a LIFT segment without a lift group. -/
def badGroup (g : Seg) : Bool := g.kind == .lift && g.group.isNone

/-- Check 3: a door slot names no node of kind DOOR. -/
def badDoors (m : MapStore) (l : Listing) : Bool :=
  l.doors.any fun d => match m.nodes.get d with | none => true | some n => n.kind != .door

/-- Check 4: the relocation target of listing `i` is undefined or the listing itself. -/
def badTarget (m : MapStore) (i : Nat) (l : Listing) : Bool :=
  match l.override with
  | .relocated t => (m.listings.get t).isNone || t == i
  | .absent | .forcedOpen | .forcedClosed | .vacant => false

/-- Check 5: the screen's point node is undefined or no SCREEN_POINT. -/
def badPoint (m : MapStore) (d : ScreenDecl) : Bool :=
  match m.nodes.get d.point with | none => true | some n => n.kind != .screenPoint

/-- The first record that fails, with its check (R17); NO_EXIT names no record. -/
def State.invalid (s : State) : Option (Kw × Option Nat) :=
  match firstBad (badEnds s.map) s.map.segs with
  | some i => some (.segmentEndpoint, some i)
  | none =>
    match firstBad badGroup s.map.segs with
    | some i => some (.liftGroup, some i)
    | none =>
      match firstBad (badDoors s.map) s.map.listings with
      | some i => some (.doorKind, some i)
      | none =>
        match s.map.listings.find? fun q => badTarget s.map q.1 q.2 with
        | some q => some (.relocationTarget, some q.1)
        | none =>
          match (List.finRange 48).find? fun (n : Fin 48) => s.screens[n].any fun c => badPoint s.map c.decl with
          | some n => some (.screenPoint, some n.val)
          | none => if s.map.nodes.any fun q => q.2.kind == .exit then none else some (.noExit, none)

/-- The answer to a START on an invalid map (R17). -/
def invalidAnswer (check : Kw) (index : Option Nat) : Answer :=
  .noWith .mapInvalid ((.check, .word check) :: match index with | none => [] | some i => [(.index, .num i)])

/-! ## START (R18) -/

/-- A timer returns to its run setting (R160). -/
def CadenceTimer.start (t : CadenceTimer) : CadenceTimer := { t with state := t.setting }

/-- The part enters SERVICE (R18, R138, R160). -/
def State.enterService (s : State) : State :=
  let s1 := (s.withMap { s.map with mode := .service, generation := 0 }).mapSessions fun d ses => ses.toIdle d
  s1.withClock { s1.clock with timers := mapFin (fun _ t => t.start) s1.clock.timers }

/-- START (R17, R18); a PENDING evacuation's entry event follows it (R146, R151). -/
def startEffect (s : State) : State × Answer :=
  checked [inLoad s] s fun s =>
    match s.invalid with
    | some (check, index) => (s, invalidAnswer check index)
    | none =>
      (if s.evac.state = .pending then s.enterService.entryEvent .start else s.enterService, .ok [(.gen, .num 0)])

/-- Validates the map and enters service (R17, R18). -/
def execStart (tag : Nat) (s : State) : Host.Outcome State Fault Refusal := respond (.start tag) tag s startEffect

/-! ## STOP (R19, R51, R73, R138, R151, R160) -/

/-- A timer halts, its run setting kept (R160). -/
def CadenceTimer.stop (t : CadenceTimer) : CadenceTimer := { t with state := .halt, due := false }

/-- What STOP does to evacuation (R151). -/
def State.stopEvac (s : State) : State :=
  if s.evacActive then ((s.evacTo .pending).clearDue).postEvac .stop else s

/-- The part leaves SERVICE. -/
def State.leaveService (s : State) : State :=
  let s1 := s.endEntries (fun _ => true) .serviceStopped
  let s2 := (s1.withMap { s1.map with mode := .load }).mapSessions fun d ses => ses.toDormant d
  (s2.withClock { s2.clock with timers := mapFin (fun _ t => t.stop) s2.clock.timers }).stopEvac

/-- STOP (R19). -/
def stopEffect (s : State) : State × Answer :=
  checked [(s.inService, .no .wrongMode)] s fun s => (s.leaveService, .ok [genField s.leaveService])

/-- Returns to LOAD (R19). -/
def execStop (tag : Nat) (s : State) : Host.Outcome State Fault Refusal := respond (.stop tag) tag s stopEffect

end Sys2Proof.Machine
end

