-- ==== Sys2Proof/Config.lean ====
section
/-!
DEFINITION. What an implementation fixes and the manual leaves open. The manual fixes the WX-320 almost wholly; one
value read by the host is not determined by the events it names.
-/

namespace Sys2Proof

/-- FREE VALUE (log entry 10). SCREEN-GET reports the whole seconds left on an idle timer, rounded up (R133, R140).
The timer starts between two seconds of the timebase, so after n of them the value is either the timeout less n or one
more, by a phase the manual does not state. The phase of the k-th such read; no proof can see which it is. -/
opaque Config.idlePhaseLate : Nat → Bool

end Sys2Proof
end

