-- ==== Sys2Proof/Machine/Sessions.lean ====
section
/-!
DEFINITION. The session block's requests (chapter 8) and the idle timer's expiry.
-/

namespace Sys2Proof.Machine

/-! ## Withdrawal (R49) -/

/-- The route id that a request taken in ROUTE_PENDING withdraws (R49). -/
def Session.withdraws (ses : Session) : Option Nat := if ses.state = .routePending then ses.pending else none

/-- The session withdraws its pending route: the pending route id is cleared and the NORMAL entry ended (R49). -/
def State.withdraw (s : State) (n : Fin 48) (ses : Session) : State :=
  if ses.state = .routePending then (s.modifySession n Session.clearPending).endScreenEntry n .withdrawn else s

/-! ## What a request makes of a session (R129 to R132) -/

/-- A page is opened (R129). -/
def Session.open (p : Page) (ses : Session) : Session := { ses.push p with state := .active, shown := none }

/-- BACK, and with `restore` BACK-RESTORE (R130). An empty stack is not popped, and IDLE stays IDLE. What is restored is what
the popped entry recorded at its push, also over a ROUTE page with a PREFS since the delivery, where R137's last sentence
speaks of the settings at the delivery: DEDUCED (log entry 35). -/
def Session.back (restore : Bool) (ses : Session) : Session :=
  match ses.stack with
  | [] => if ses.state = .idle then ses else ses.settleOnTop
  | e :: rest =>
    let ses1 := { ses with stack := rest }
    (if restore then { ses1 with language := e.language, profile := e.profile } else ses1).settleOnTop

/-- HOME (R131). -/
def Session.goHome (ses : Session) : Session := { ses with state := .active, stack := [], shown := none }

/-- PREFS (R132). -/
def Session.setPrefs (language : Option Nat) (profile : Option Profile) (ses : Session) : Session :=
  { ses with language := language.getD ses.language, profile := profile.getD ses.profile }

/-! ## Replies (R128) -/

/-- The value of a page. -/
def pageVal : Page → Val
  | .category n => .num n
  | .listing n => .num n
  | .search t => .text t
  | .levelMap l => .int l
  | .route id => .num id

/-- The kind of a page. -/
def pageKindOf : Page → PageKind
  | .category _ => .category
  | .listing _ => .listing
  | .search _ => .search
  | .levelMap _ => .levelMap
  | .route _ => .route

/-- TOP, with TOPVAL when the stack is not empty (R128). -/
def topFields (ses : Session) : List (Key × Val) :=
  match ses.stack with
  | [] => [(.top, .word .home)]
  | e :: _ => [(.top, .word (pageKindWord (pageKindOf e.page))), (.topval, pageVal e.page)]

/-- PAGE: the page index of the screen's cadence timer, while the session is IDLE (R128). -/
def pageFields (s : State) (d : ScreenDecl) (ses : Session) : List (Key × Val) :=
  if ses.state = .idle then
    [(.page, match d.cadence with | none => .word .absent | some t => .num s.clock.timers[t].page)]
  else []

/-- LANG and PROFILE (R128, R140). -/
def prefFields (ses : Session) : List (Key × Val) :=
  [(.lang, .num ses.language), (.profile, .word (profileWord ses.profile))]

/-- What a reply carries for its verb between TOP and PAGE (R128). -/
structure ReplyExtras where
  trimmed : Option Bool := none
  prefs : Bool := false

/-- The fields of a session request's reply (R128). -/
def sessionFields (s : State) (n : Fin 48) (d : ScreenDecl) (ses : Session) (withdrawn : Option Nat) (x : ReplyExtras) :
    List (Key × Val) :=
  [(.screen, .num n), (.state, .word (sessionStateWord ses.state)), (.depth, .num ses.stack.length)] ++ topFields ses
    ++ (match x.trimmed with | none => [] | some b => [(.trimmed, flagVal b)])
    ++ (match withdrawn with | none => [] | some id => [(.withdrawn, .num id)])
    ++ (if x.prefs then prefFields ses else []) ++ pageFields s d ses

/-! ## Taking a session request (R127) -/

/-- Checks 3 to 7 of R127, on the session found; `ranges`, `agree` and `exists` are those of the verb. -/
def sessionChecks (ses : Session) (ranges agree listed : Bool) : List (Bool × Answer) :=
  [(ses.state != .dormant, .no .wrongMode), (ses.state != .alert, .no .evacActive), inRange ranges, agrees agree,
   exists? listed]

/-- A session request for a screen (R127): its checks, the session block's act on the session found, and the reply. -/
def sessionRequest (screen : Nat) (ranges agree listed : Bool) (s : State)
    (act : Fin 48 → Screen → State × Answer) : State × Answer :=
  match toFin? 48 screen with
  | none => (s, .no .outOfRange)
  | some n =>
    match s.screens[n] with
    | none => (s, .no .notFound)
    | some c => checked (sessionChecks c.session ranges agree listed) s fun _ => act n c

/-- The withdrawal where the verb withdraws, the verb's change of the session, the idle timer restarted, and the reply
(R128, R133). -/
def takeRequest (s : State) (n : Fin 48) (c : Screen) (withdraws : Bool) (x : ReplyExtras) (f : Session → Session) :
    State × Answer :=
  let s1 := if withdraws then s.withdraw n c.session else s
  let s2 := s1.modifySession n fun d ses => (f ses).restartIdle d
  let id := if withdraws then c.session.withdraws else none
  match s2.screens[n] with
  | none => (s2, .ok [])
  | some c2 => (s2, .ok (sessionFields s2 n c2.decl c2.session id x))

/-! ## The session requests (R129 to R132) -/

/-- The ranges of a NAV request's values (R129). -/
def navInRange (a : NavArgs) : Bool :=
  optLe 63 a.category && optLe 1023 a.listing && a.text.all (fun t => t.length ≤ 8) && a.level.all levelOk

/-- The page a NAV request names: the one value field of its PAGE (R129). -/
def navPage? (a : NavArgs) : Option Page :=
  match a.page, a.category, a.listing, a.text, a.level with
  | .category, some n, none, none, none => some (.category n)
  | .listing, none, some n, none, none => some (.listing n)
  | .search, none, none, some t, none => some (.search t)
  | .levelMap, none, none, none, some l => some (.levelMap l)
  | _, _, _, _, _ => none

/-- NAV (R129). -/
def navEffect (screen : Nat) (a : NavArgs) (s : State) : State × Answer :=
  sessionRequest screen (navInRange a) (navPage? a).isSome (a.listing.all fun l => (s.map.listings.get l).isSome) s
    fun n c =>
      match navPage? a with
      | none => (s, .no .conflict)
      | some p => takeRequest s n c true { trimmed := some c.session.full } (Session.open p)

/-- BACK and BACK-RESTORE (R130). -/
def backEffect (restore : Bool) (screen : Nat) (s : State) : State × Answer :=
  sessionRequest screen true true true s fun n c => takeRequest s n c true { prefs := restore } (Session.back restore)

/-- HOME (R131). -/
def homeEffect (screen : Nat) (s : State) : State × Answer :=
  sessionRequest screen true true true s fun n c => takeRequest s n c true {} Session.goHome

/-- PREFS (R132). -/
def prefsEffect (screen : Nat) (language : Option Nat) (profile : Option Profile) (s : State) : State × Answer :=
  sessionRequest screen (optLe 7 language) (language.isSome || profile.isSome) true s
    fun n c => takeRequest s n c false { prefs := true } (Session.setPrefs language profile)

/-- TAP (R132). -/
def tapEffect (screen : Nat) (s : State) : State × Answer :=
  sessionRequest screen true true true s fun n c => takeRequest s n c false {} id

/-- Opens a page (R129). -/
def execNav (tag screen : Nat) (args : NavArgs) (s : State) : Host.Outcome State Fault Refusal :=
  respond (.nav tag screen args) tag s (navEffect screen args)

/-- Pops a page and keeps the settings (R130). -/
def execBack (tag screen : Nat) (s : State) : Host.Outcome State Fault Refusal :=
  respond (.back tag screen) tag s (backEffect false screen)

/-- Pops a page and restores the settings recorded with it (R130). -/
def execBackRestore (tag screen : Nat) (s : State) : Host.Outcome State Fault Refusal :=
  respond (.backRestore tag screen) tag s (backEffect true screen)

/-- Clears the stack (R131). -/
def execHome (tag screen : Nat) (s : State) : Host.Outcome State Fault Refusal :=
  respond (.home tag screen) tag s (homeEffect screen)

/-- Sets language or profile (R132). -/
def execPrefs (tag screen : Nat) (language : Option Nat) (profile : Option Profile) (s : State) :
    Host.Outcome State Fault Refusal :=
  respond (.prefs tag screen language profile) tag s (prefsEffect screen language profile)

/-- Restarts the idle timer (R132). -/
def execTap (tag screen : Nat) (s : State) : Host.Outcome State Fault Refusal :=
  respond (.tap tag screen) tag s (tapEffect screen)

/-! ## SCREEN-GET (R140) -/

/-- The whole seconds left on a running idle timer, rounded up (R140). After `n` timebase seconds the time elapsed lies
above n − 1 s and below n + 1 s, so the reading is the timeout less n, or one more: which of the two is a free value (log
entry 10). A timer that still runs has some time left, so the reading is at least 1. -/
def IdleTimer.left (t : IdleTimer) (late : Bool) : Nat :=
  max 1 (t.timeout - t.seconds + (if 0 < t.seconds && late then 1 else 0))

/-- IDLE_LEFT (R140). -/
def idleVal (late : Bool) : Option IdleTimer → Val
  | none => .word .absent
  | some t => .num (t.left late)

/-- A stack entry's line (R140). -/
def entryLine (e : PageEntry) : ReplyLine :=
  ⟨none, [(.kind, .word (pageKindWord (pageKindOf e.page))), (.value, pageVal e.page), (.lang, .num e.language),
          (.profile, .word (profileWord e.profile))]⟩

/-- The first line of SCREEN-GET's reply (R140). -/
def screenGetFields (s : State) (n : Fin 48) (c : Screen) : List (Key × Val) :=
  [(.screen, .num n), (.state, .word (sessionStateWord c.session.state))] ++ prefFields c.session
    ++ [(.depth, .num c.session.stack.length), (.pending, numOrNone c.session.pending),
        (.shown, numOrNone c.session.shown), (.evac, numOrNone c.session.evac),
        (.idleLeft, idleVal (Config.idlePhaseLate s.free) c.session.idle)]
    ++ pageFields s c.decl c.session

/-- SCREEN-GET (R140). A reading of a running timer uses up a free value. -/
def screenGetEffect (screen : Nat) (s : State) : State × Answer :=
  match toFin? 48 screen with
  | none => (s, .no .outOfRange)
  | some n =>
    match s.screens[n] with
    | none => (s, .no .notFound)
    | some c =>
      (if c.session.idle.isSome then { s with free := s.free + 1 } else s,
       .okLines (screenGetFields s n c) (c.session.stack.map entryLine))

/-- Returns a session's context (R140). -/
def execScreenGet (tag screen : Nat) (s : State) : Host.Outcome State Fault Refusal :=
  respond (.screenGet tag screen) tag s (screenGetEffect screen)

/-! ## The idle timer's expiry (R134) -/

/-- Steps 2 to 4 of R134. -/
def Session.expire (d : ScreenDecl) (ses : Session) : Session :=
  { ses with state := .idle, stack := [], shown := none, language := d.language, profile := .standard, idle := none }

/-- The idle timer of a screen's session expires (R134). A timer that is stopped does not expire. -/
def execIdleTimerExpiry (screen : Fin 48) (s : State) : Host.Outcome State Fault Refusal :=
  .next (match s.screens[screen] with
    | none => s
    | some c =>
      if c.session.idle.isSome then (s.withdraw screen c.session).modifySession screen Session.expire else s)

end Sys2Proof.Machine
end

