-- ==== Sys2Proof/Machine/Dispatch.lean ====
section
/-!
DEFINITION. The dispatch: one arm for each command, each a direct call of its meaning.
-/

namespace Sys2Proof.Machine

/-- The effect of a command on everything but the queue of commands. -/
def exec (i : Instr) (s : State) : Host.Outcome State Fault Refusal :=
  match i with
  | .hardReset => Sys2Proof.Machine.execHardReset s
  | .lineComplete => Sys2Proof.Machine.execLineComplete s
  | .assemblyTimerExpiry => Sys2Proof.Machine.execAssemblyTimerExpiry s
  | .unknownVerb line => Sys2Proof.Machine.execUnknownVerb line s
  | .status tag clear => Sys2Proof.Machine.execStatus tag clear s
  | .fetch tag => Sys2Proof.Machine.execFetch tag s
  | .mask tag args => Sys2Proof.Machine.execMask tag args s
  | .start tag => Sys2Proof.Machine.execStart tag s
  | .stop tag => Sys2Proof.Machine.execStop tag s
  | .mapClear tag => Sys2Proof.Machine.execMapClear tag s
  | .nodePut tag index args => Sys2Proof.Machine.execNodePut tag index args s
  | .nodeRemove tag index args => Sys2Proof.Machine.execNodeRemove tag index args s
  | .nodeRead tag index args => Sys2Proof.Machine.execNodeRead tag index args s
  | .segPut tag index args => Sys2Proof.Machine.execSegPut tag index args s
  | .segRemove tag index args => Sys2Proof.Machine.execSegRemove tag index args s
  | .segRead tag index args => Sys2Proof.Machine.execSegRead tag index args s
  | .segState tag index value => Sys2Proof.Machine.execSegState tag index value s
  | .segTrim tag index trim => Sys2Proof.Machine.execSegTrim tag index trim s
  | .liftWait tag group wait => Sys2Proof.Machine.execLiftWait tag group wait s
  | .liftWaitRead tag group => Sys2Proof.Machine.execLiftWaitRead tag group s
  | .listingPut tag index args => Sys2Proof.Machine.execListingPut tag index args s
  | .listingRemove tag index args => Sys2Proof.Machine.execListingRemove tag index args s
  | .override tag listing value target => Sys2Proof.Machine.execOverride tag listing value target s
  | .search tag text category start => Sys2Proof.Machine.execSearch tag text category start s
  | .lookup tag listing => Sys2Proof.Machine.execLookup tag listing s
  | .demand tag listing clear => Sys2Proof.Machine.execDemand tag listing clear s
  | .screenDeclare tag screen args => Sys2Proof.Machine.execScreenDeclare tag screen args s
  | .screenUndeclare tag screen args => Sys2Proof.Machine.execScreenUndeclare tag screen args s
  | .screenRead tag screen args => Sys2Proof.Machine.execScreenRead tag screen args s
  | .paceWrite tag profile kind value => Sys2Proof.Machine.execPaceWrite tag profile kind value s
  | .paceRead tag profile kind => Sys2Proof.Machine.execPaceRead tag profile kind s
  | .multWrite tag profile cls value => Sys2Proof.Machine.execMultWrite tag profile cls value s
  | .multRead tag profile cls => Sys2Proof.Machine.execMultRead tag profile cls s
  | .route tag args => Sys2Proof.Machine.execRoute tag args s
  | .routeCancel tag id => Sys2Proof.Machine.execRouteCancel tag id s
  | .completionEvent u => Sys2Proof.Machine.execCompletionEvent u s
  | .beamEvent g beam => Sys2Proof.Machine.execBeamEvent g beam s
  | .pairEvent g => Sys2Proof.Machine.execPairEvent g s
  | .stuckTimerExpiry g beam => Sys2Proof.Machine.execStuckTimerExpiry g beam s
  | .recoveryTimerExpiry g => Sys2Proof.Machine.execRecoveryTimerExpiry g s
  | .gate tag index args => Sys2Proof.Machine.execGate tag index args s
  | .gateRead tag index clear => Sys2Proof.Machine.execGateRead tag index clear s
  | .zone tag index args => Sys2Proof.Machine.execZone tag index args s
  | .censusPeriod tag period => Sys2Proof.Machine.execCensusPeriod tag period s
  | .censusPeriodRead tag => Sys2Proof.Machine.execCensusPeriodRead tag s
  | .censusTick => Sys2Proof.Machine.execCensusTick s
  | .zoneClose tag index => Sys2Proof.Machine.execZoneClose tag index s
  | .zoneOpen tag index => Sys2Proof.Machine.execZoneOpen tag index s
  | .occupancy tag index n => Sys2Proof.Machine.execOccupancy tag index n s
  | .censusZero tag => Sys2Proof.Machine.execCensusZero tag s
  | .historyResume tag => Sys2Proof.Machine.execHistoryResume tag s
  | .history tag next => Sys2Proof.Machine.execHistory tag next s
  | .zoneRead tag index => Sys2Proof.Machine.execZoneRead tag index s
  | .watch tag index args => Sys2Proof.Machine.execWatch tag index args s
  | .watchArm tag index => Sys2Proof.Machine.execWatchArm tag index s
  | .watchOff tag index => Sys2Proof.Machine.execWatchOff tag index s
  | .watchRead tag index => Sys2Proof.Machine.execWatchRead tag index s
  | .holdOffExpiry w => Sys2Proof.Machine.execHoldOffExpiry w s
  | .pulseTimerExpiry l => Sys2Proof.Machine.execPulseTimerExpiry l s
  | .nav tag screen args => Sys2Proof.Machine.execNav tag screen args s
  | .back tag screen => Sys2Proof.Machine.execBack tag screen s
  | .backRestore tag screen => Sys2Proof.Machine.execBackRestore tag screen s
  | .home tag screen => Sys2Proof.Machine.execHome tag screen s
  | .prefs tag screen language profile => Sys2Proof.Machine.execPrefs tag screen language profile s
  | .tap tag screen => Sys2Proof.Machine.execTap tag screen s
  | .screenGet tag screen => Sys2Proof.Machine.execScreenGet tag screen s
  | .idleTimerExpiry screen => Sys2Proof.Machine.execIdleTimerExpiry screen s
  | .evacInRise => Sys2Proof.Machine.execEvacInRise s
  | .evacInFall => Sys2Proof.Machine.execEvacInFall s
  | .evac tag => Sys2Proof.Machine.execEvac tag s
  | .evacEnd tag => Sys2Proof.Machine.execEvacEnd tag s
  | .timebaseSecond => Sys2Proof.Machine.execTimebaseSecond s
  | .cadencePeriodExpiry t => Sys2Proof.Machine.execCadencePeriodExpiry t s
  | .clock tag weekday minute second => Sys2Proof.Machine.execClock tag weekday minute second s
  | .clockRead tag => Sys2Proof.Machine.execClockRead tag s
  | .cadence tag timer args => Sys2Proof.Machine.execCadence tag timer args s
  | .cadenceRead tag timer => Sys2Proof.Machine.execCadenceRead tag timer s
  | .cadenceRun tag timer restart => Sys2Proof.Machine.execCadenceRun tag timer restart s
  | .cadenceHalt tag timer => Sys2Proof.Machine.execCadenceHalt tag timer s
  | .characterReceived code damaged => Sys2Proof.Machine.execCharacterReceived code damaged s
  | .beamLineChange g beam high => Sys2Proof.Machine.execBeamLineChange g beam high s
  | .evacInLineChange high => Sys2Proof.Machine.execEvacInLineChange high s
  | .replyTransmitted => Sys2Proof.Machine.execReplyTransmitted s

end Sys2Proof.Machine
end

