-- ==== Sys2Proof/Safety.lean ====
section
/-!
DEFINITION. What counts as a sound state of the WX-320: the invariants that the manual states of the whole machine, each as
a property of a state, in the words that the statements use.
-/

namespace Sys2Proof.Safety

open Sys2Proof Sys2Proof.Machine

/-- Every step from a state with the property leads to a state with the property. -/
def KeptByEveryStep (p : State → Prop) : Prop := ∀ s s' : State, p s → step s = .next s' → p s'

/-! ## Outcomes owed (R38, R39, R167) -/

/-- The number of queued entries, plus the BUSY units, plus the ROUTE_RESULT notices waiting (R38). -/
def outcomesOwed (s : State) : Nat := s.queue.entries.length + s.units.busy + resultCount s.port.notices

/-- The outstanding count is the number of outcomes owed (R38). -/
def OutcomesCounted (s : State) : Prop := s.queue.outstanding = outcomesOwed s

/-- The outcomes are counted, and the allowance, the queue and the notice queue are within their limits (R38, R43, R167). -/
def LimitsKept (s : State) : Prop :=
  OutcomesCounted s ∧ s.queue.entries.length ≤ 16 ∧ s.queue.outstanding ≤ 24 ∧ s.port.notices.length ≤ 32

/-- No two outstanding outcomes share a route id, and every id is one of 0 to 65,535 (R41). -/
def IdsDistinct (s : State) : Prop :=
  s.outstandingIds.Nodup ∧ (∀ i ∈ s.outstandingIds, i < 65536) ∧ s.queue.nextId < 65536

/-- Neither the arbiter nor the sweep has an act left to make (R50, R148). -/
def Quiet (s : State) : Prop := s.settleStep = none

/-! ## Counters (R14, R20, R82, R91, R94, R111, R163) -/

/-- Every counter lies in its range. -/
def CountersInRange (s : State) : Prop :=
  (∀ z : Fin 32, s.census.zones[z].occupancy ≤ 9999)
  ∧ (∀ g : Fin 32, s.gates[g].inbound ≤ 65535 ∧ s.gates[g].outbound ≤ 65535)
  ∧ (∀ q ∈ s.map.listings, q.2.demand ≤ 65535)
  ∧ s.watches.failures ≤ 65535 ∧ s.port.frames ≤ 65535 ∧ s.census.tick < 65536 ∧ s.map.generation < 4294967296

/-! ## Map store -/

/-- The keys of every table are rising, so equal maps are equal data. -/
def TablesSorted (s : State) : Prop := s.map.nodes.wf ∧ s.map.segs.wf ∧ s.map.listings.wf

/-- Entries of the name index in the order of R11. -/
def indexSorted (idx : List (Text × Nat)) : Prop := idx.Pairwise fun p q => entryLt p q = true

/-- The name index holds one entry for each defined listing, its folded name, in order (R11). -/
def IndexAgrees (s : State) : Prop :=
  s.map.listings.wf ∧ indexSorted s.map.nameIndex
  ∧ ∀ e : Text × Nat, e ∈ s.map.nameIndex ↔ ∃ l, s.map.listings.get e.2 = some l ∧ e.1 = foldName l.name

/-- In SERVICE the map passes every check of START (R17). -/
def MapValid (s : State) : Prop := s.map.listings.wf ∧ s.map.segs.wf ∧ (s.map.mode = .service → s.invalid = none)

/-- Every pace is at most 255 and that of EVACUATION and LIFT is 0; every multiplier is from 16 to 255 (R23, R25). -/
def CostTablesKept (s : State) : Prop :=
  s.map.paceOf .evacuation .lift = 0 ∧ (∀ p k, s.map.paceOf p k ≤ 255)
  ∧ ∀ p c, 16 ≤ s.map.multOf p c ∧ s.map.multOf p c ≤ 255

/-- A record fails a check of START: `order` is the check's place in the table of R17, 1 to 6, and `i` the record's index. The
sixth check, of the whole map, fails at no record and is given the index 0. -/
def StartFailure (s : State) (order i : Nat) : Prop :=
  match order with
  | 1 => ∃ g, s.map.segs.get i = some g ∧ (s.map.nodes.get g.src = none ∨ s.map.nodes.get g.dst = none)
  | 2 => ∃ g, s.map.segs.get i = some g ∧ g.kind = .lift ∧ g.group = none
  | 3 => ∃ l, s.map.listings.get i = some l ∧ ∃ d ∈ l.doors, ∀ n, s.map.nodes.get d = some n → n.kind ≠ .door
  | 4 => ∃ l t, s.map.listings.get i = some l ∧ l.override = .relocated t ∧ (s.map.listings.get t = none ∨ t = i)
  | 5 => ∃ (n : Fin 48) (c : Screen), n.val = i ∧ s.screens[n] = some c
      ∧ ∀ x, s.map.nodes.get c.decl.point = some x → x.kind ≠ .screenPoint
  | 6 => i = 0 ∧ ∀ k x, s.map.nodes.get k = some x → x.kind ≠ .exit
  | _ => False

/-- The name of a check of START (R17). -/
def startCheckWord (order : Nat) : Kw :=
  match order with
  | 1 => .segmentEndpoint
  | 2 => .liftGroup
  | 3 => .doorKind
  | 4 => .relocationTarget
  | 5 => .screenPoint
  | _ => .noExit

/-! ## Refusals (R2, R37, R127) -/

/-- The answer of the first condition of a list that does not hold. -/
def FirstFailing : List (Prop × Answer) → Answer → Prop
  | [], _ => False
  | (p, x) :: rest, y => ¬ p ∧ y = x ∨ p ∧ FirstFailing rest y

/-- A request is refused with the answer of the first of its checks that fails, and then changes nothing but the line that it
answers and the replies to send. -/
def RefusedByFirst (c : Instr) (tag : Nat) (s : State) (checks : List (Prop × Answer)) : Prop :=
  ∀ y, FirstFailing checks y → exec c s = .next ((s.taken c).reply tag y)

/-! ## Gates (R75 to R88) -/

/-- The gate decodes: its mode is not OFF and it is not in FAULT (R83). -/
def Gate.decodes (g : Gate) : Bool := g.mode != .off && g.state != .fault

/-- A gate record as R75, R81, R83 and R85 describe it: a stuck timer runs exactly while its beam is blocked and the gate
decodes, the recovery timer exactly while the gate is in FAULT with both beams clear. -/
def GateSound (g : Gate) : Prop :=
  (1 ≤ g.stuckLimit ∧ g.stuckLimit ≤ 255) ∧ g.sidesClash = false
  ∧ (g.mode = .off → g.state = .clear) ∧ (g.mode = .pulse → g.state = .clear ∨ g.state = .fault)
  ∧ g.a.stuck = (if Gate.decodes g && g.levels.1 then some g.stuckLimit else none)
  ∧ g.b.stuck = (if Gate.decodes g && g.levels.2 then some g.stuckLimit else none)
  ∧ g.recovery = (g.state == .fault && g.levels == (false, false))

/-- Every gate record is sound. -/
def GatesSound (s : State) : Prop := ∀ g : Fin 32, GateSound s.gates[g]

/-! ## Census (R91 to R104) -/

/-- A zone record as R91 and R93 describe it. -/
def ZoneSound (z : Zone) : Prop :=
  (1 ≤ z.busyAt ∧ z.busyAt ≤ 9998) ∧ (z.busyAt < z.crowdedAt ∧ z.crowdedAt ≤ 9999)
  ∧ (z.margin ≤ 999 ∧ z.margin ≤ z.busyAt - 1) ∧ (1 ≤ z.hold ∧ z.hold ≤ 60) ∧ z.below < z.hold
  ∧ (z.enable = .disabled → z.cls = .clear) ∧ (z.enable = .disabling → z.cls ≠ .clear ∧ z.below = 0)

/-- A history record holds an occupancy, a class and an ESTIMATED flag for each of the 32 zones (R104). -/
def RecordSound (r : HistoryRecord) : Prop :=
  r.occupancy.length = 32 ∧ r.cls.length = 32 ∧ r.estimated.length = 32

/-- Every zone record is sound, the period is 1 to 60 s, and the ring holds at most 64 records, each of the 32 zones (R94,
R104). -/
def CensusSound (s : State) : Prop :=
  (∀ z : Fin 32, ZoneSound s.census.zones[z]) ∧ (1 ≤ s.census.period ∧ s.census.period ≤ 60)
  ∧ s.census.ring.length ≤ 64 ∧ ∀ r ∈ s.census.ring, RecordSound r

/-- What one step can do to the history ring (R104, R105): leave it; empty it, at a hard reset; or push one record behind every
record pushed before it, with the number of the tick just taken, the oldest of 64 leaving as it joins. A frozen ring
takes none. -/
def RingMoves (s t : State) : Prop :=
  t.census.ring = s.census.ring
  ∨ (t.census.ring = [] ∧ ∃ rest, s.pending = .hardReset :: rest)
  ∨ ∃ r : HistoryRecord, s.census.frozen = false ∧ r.tick = t.census.tick
      ∧ t.census.tick = (s.census.tick + 1) % 65536
      ∧ t.census.ring = (if s.census.ring.length < 64 then s.census.ring else s.census.ring.drop 1) ++ [r]

/-! ## Watches (R109 to R121) -/

/-- A watch record as R109 and R113 describe it: a watch that is not configured is DISABLED, a configured one has a subject and
an action, a WAITING one is chained, one in HOLDOFF reports or pulses, a FIRED one freezes or applies, and a STAGED one
stages. -/
def WatchSound (x : Watch) : Prop :=
  (x.configured = false → x.state = .disabled) ∧ (x.configured = true → x.subject.isSome ∧ x.action.isSome)
  ∧ x.remaining ≤ x.countBefore ∧ x.countBefore ≤ 255 ∧ x.threshold ≤ 65535 ∧ (1 ≤ x.holdOff ∧ x.holdOff ≤ 255)
  ∧ (x.state = .waiting → x.chained = true)
  ∧ (x.state = .holdOff → x.action = some .report ∨ ∃ l, x.action = some (.pulse l))
  ∧ (x.state = .fired → x.action = some .freeze ∨ ∃ z, x.action = some (.apply z))
  ∧ (x.state = .staged → x.action = some .stage)

/-- Every watch is sound, watch 0 is not chained, and the owner of a pulse is a watch that pulses that line (R112, R116). -/
def WatchesSound (s : State) : Prop :=
  (∀ w : Fin 8, WatchSound s.watches.watches[w]) ∧ s.watches.watches[0].chained = false
  ∧ ∀ (l : Fin 4) (w : Fin 8), s.watches.alerts[l] = some w → s.watches.watches[w].action = some (.pulse l)

/-! ## Engine mode, evacuation and service (R1, R126, R139, R141, R152) -/

/-- ACTIVE arises in SERVICE alone and PENDING in LOAD alone; a due flag is set for declared screens alone while ACTIVE; EVAC_ACK
is high in ACTIVE and low in INACTIVE; in LOAD nothing is queued or in a unit (R51, R141, R152). -/
def ModesAgree (s : State) : Prop :=
  (s.evac.state = .active → s.map.mode = .service) ∧ (s.evac.state = .pending → s.map.mode = .load)
  ∧ (∀ n : Fin 48, s.evac.due[n] = true → s.evac.state = .active ∧ s.screens[n].isSome = true)
  ∧ (s.evac.state = .active → s.evac.ack = true) ∧ (s.evac.state = .inactive → s.evac.ack = false)
  ∧ (s.map.mode = .load → s.queue.entries = [] ∧ s.units = ⟨none, none⟩)

/-- While evacuation is ACTIVE only EVACUATION entries are queued or in a unit, and otherwise only NORMAL ones (R43, R48). -/
def ClassesAgree (s : State) : Prop :=
  ∀ e ∈ s.queue.entries ++ s.units.entries, e.cls = (if s.evac.state = .active then .evacuation else .normal)

/-- A cadence timer as R157 describes it. -/
def TimerSound (t : CadenceTimer) : Prop :=
  (5 ≤ t.period ∧ t.period ≤ 600) ∧ (1 ≤ t.pages ∧ t.pages ≤ 16) ∧ t.page < t.pages ∧ t.count < t.period
  ∧ (t.due = true → t.state = .run)

/-- Every cadence timer is sound, HALT in LOAD, and at most one is MASTER (R157). -/
def TimersSound (s : State) : Prop :=
  (∀ t : Fin 8, TimerSound s.clock.timers[t])
  ∧ (s.map.mode = .load → ∀ t : Fin 8, s.clock.timers[t].state = .halt)
  ∧ ∀ t u : Fin 8, s.clock.timers[t].role = .master → s.clock.timers[u].role = .master → t = u

/-- The SET day clock holds a minute of the day and a second (R153). -/
def ClockSound (s : State) : Prop := ∀ c ∈ s.clock.clock, c.minute ≤ 1439 ∧ c.second ≤ 59

/-! ## Sessions (R124 to R139) -/

/-- The top of a stack is the ROUTE page of an id. -/
def topIsRoute (stack : List PageEntry) (id : Nat) : Bool :=
  match stack with
  | [] => false
  | e :: _ => e.page == .route id

/-- A session as R125 and R126 describe it. -/
def SessionSound (c : Session) : Prop :=
  c.stack.length ≤ 8
  ∧ (c.state = .idle ∨ c.state = .alert ∨ c.state = .dormant → c.stack = [])
  ∧ (c.pending.isSome ↔ c.state = .routePending)
  ∧ (c.shown.isSome ↔ c.state = .routeShown) ∧ (∀ id ∈ c.shown, topIsRoute c.stack id = true)
  ∧ (c.evac.isSome → c.state = .alert)
  ∧ (c.state = .active ∨ c.state = .routePending ∨ c.state = .routeShown → c.idle.isSome)
  ∧ (c.state = .alert ∨ c.state = .dormant → c.idle = none)

/-- Every session is sound; in LOAD it is DORMANT, and in SERVICE it is in ALERT exactly while evacuation is ACTIVE and never
DORMANT (R138, R139). -/
def SessionsAgree (s : State) : Prop :=
  ModesAgree s ∧ ∀ n : Fin 48, ∀ c ∈ s.screens[n], SessionSound c.session
    ∧ (s.map.mode = .load → c.session.state = .dormant)
    ∧ (s.map.mode = .service →
        c.session.state ≠ .dormant ∧ (c.session.state = .alert ↔ s.evac.state = .active))

/-- The entries of a class with a screen as origin, queued or in a unit. -/
def entriesOf (s : State) (c : EntryClass) (n : Fin 48) : List Entry :=
  (s.queue.entries ++ s.units.entries).filter (Entry.ofScreen c n)

/-- The pending route id of a screen's session; an undeclared screen has none. -/
def pendingOf (s : State) (n : Fin 48) : Option Nat := (s.screens[n]).bind fun c => c.session.pending

/-- No attempt stays in a unit whose completion follows its start event at once (R55). -/
def AttemptsSearch (s : State) : Prop := ∀ a ∈ s.units.a.toList ++ s.units.b.toList, a.immediate = false

/-- A session is pending on an id exactly when one NORMAL entry of its screen, with that id, is queued or in a unit; and no screen
has two EVACUATION entries (R44, R126). An attempt in a unit still has a search to make. -/
def PendingAgrees (s : State) : Prop :=
  SessionsAgree s ∧ AttemptsSearch s ∧ ∀ n : Fin 48,
    (entriesOf s .normal n).map Entry.id = (pendingOf s n).toList ∧ (entriesOf s .evacuation n).length ≤ 1

/-! ## Host port (R163, R165) -/

/-- At most 4 lines wait, none waits while the handler holds no line, and nothing is assembled while a tail is dropped (R163,
R165). -/
def PortSound (s : State) : Prop :=
  s.port.input.length ≤ 4 ∧ (s.port.hand = none → s.port.input = []) ∧ (s.port.dropping = true → s.port.rx = [])

/-! ## Paths (R60) -/

/-- A path over the segments of a view, from a node to a node of a set (R60). -/
def IsPath (view : List Hop) (targets : List Nat) : Nat → Path → Prop
  | n, [] => n ∈ targets
  | n, h :: rest => h ∈ view ∧ h.src = n ∧ IsPath view targets h.dst rest

/-- The cost by which paths are ranked: the held sum (R33). -/
def heldCost (p : Path) : Nat := heldSum (p.map Hop.cost)

/-- One path is chosen before another of the same origin by the tests of R60, in their order. -/
def ChosenBefore (p q : Path) : Prop :=
  heldCost p < heldCost q
  ∨ heldCost p = heldCost q ∧ (p.length < q.length
    ∨ p.length = q.length ∧ (lexLt (p.map Hop.dst) (q.map Hop.dst) = true
      ∨ p.map Hop.dst = q.map Hop.dst ∧ lexLt (p.map Hop.seg) (q.map Hop.seg) = true))

/-! ## Runs of several commands -/

/-- The state after several commands in turn, when each answers a next state. -/
def runAll : List Instr → State → Option State
  | [], s => some s
  | c :: cs, s =>
    match exec c s with
    | .next t => runAll cs t
    | .fault _ => none
    | .refused _ => none

end Sys2Proof.Safety
end

