-- ==== Sys2Proof/Certificates/Slice0/Obligations.lean ====
section
/-!
DEFINITION. The statements for the provers. Each is about every state and every operand that meets its premises; a premise is
about the state and the operands alone. `s.taken c` is the state in which the handler has taken the line of command `c`
(R165), and `t.reply tag a` is `t` with an answer given to the transmitter (R166): an equation
`exec c s = .next (t.reply tag a)` with `t` built from `s.taken c` by named updates says what changes and that nothing
else does.
-/

open Sys2Proof Sys2Proof.Machine Sys2Proof.Safety

/-! ## The step and the hard reset -/

/-- A step takes the command at the front of the queue and runs it on the state with the queue's rest. -/
def Obligations.StepRunsTheFrontCommand : Prop :=
  ∀ (c : Instr) (rest : List Instr) (s : State), s.pending = c :: rest → step s = exec c { s with pending := rest }

/-- With no command waiting, the handler carries out the line it holds: the request a well-formed line is, or UNKNOWN_VERB's
row for any other line; with no line held the block idles (R164, R165; log entry 1). -/
def Obligations.StepAnswersTheHeldLine : Prop :=
  ∀ s : State, s.pending = [] →
    (s.port.hand = none → step s = .next s)
    ∧ ∀ line, s.port.hand = some line →
        (∀ c, readLine line = .request c → step s = exec c s)
        ∧ ((∀ c, readLine line ≠ .request c) → step s = exec (.unknownVerb line) s)

/-- What a hard reset leaves, from any state: every value the manual gives, the input lines staying where they stand
(log entry 13). -/
def Obligations.HardResetLeaves : Prop :=
  ∀ s : State, ∃ t : State, exec .hardReset s = .next t
    ∧ (t.map.mode = .load ∧ t.map.generation = 0 ∧ t.map.nodes = [] ∧ t.map.segs = [] ∧ t.map.listings = []
        ∧ t.map.nameIndex = [] ∧ ∀ k : Fin 16, t.map.liftWaits[k] = 0)
    ∧ t.map.pace = #v[#v[77, 83, 200, 125, 40, 50, 100, 0], #v[91, 100, 0, 0, 40, 59, 125, 0],
                      #v[71, 77, 167, 63, 40, 33, 100, 0], #v[67, 71, 143, 167, 0, 83, 100, 77]]
    ∧ t.map.mult = #v[#v[16, 24, 40], #v[16, 28, 48], #v[16, 32, 64], #v[16, 20, 28]]
    ∧ (∀ n : Fin 48, t.screens[n] = none ∧ t.evac.due[n] = false)
    ∧ (t.queue.entries = [] ∧ t.queue.nextId = 0 ∧ t.queue.outstanding = 0 ∧ t.units.a = none ∧ t.units.b = none)
    ∧ (∀ g : Fin 32, t.gates[g] =
        { mode := .off, src := none, dst := none, invert := false, stuckLimit := 30, state := .clear, inbound := 0
          outbound := 0, fault := false, a := ⟨s.gates[g].a.line, false, none⟩, b := ⟨s.gates[g].b.line, false, none⟩
          recovery := false })
    ∧ (∀ z : Fin 32, t.census.zones[z] =
        { enable := .disabled, occupancy := 0, busyAt := 100, crowdedAt := 200, margin := 10, hold := 3, cls := .clear
          below := 0, closed := false, estimated := false })
    ∧ (t.census.period = 5 ∧ t.census.tick = 0 ∧ t.census.ring = [] ∧ t.census.frozen = false)
    ∧ (∀ w : Fin 8, t.watches.watches[w] =
        { configured := false, subject := none, cmp := .atLeast, threshold := 0, countBefore := 0, remaining := 0
          chained := false, action := none, holdOff := 10, state := .disabled, occurred := false })
    ∧ ((∀ l : Fin 4, t.watches.alerts[l] = none) ∧ t.watches.failures = 0)
    ∧ (t.evac.state = .inactive ∧ t.evac.line = s.evac.line ∧ t.evac.debounced = false ∧ t.evac.ack = false)
    ∧ t.clock.clock = none
    ∧ (∀ k : Fin 8, t.clock.timers[k] =
        { period := 10, pages := 1, page := 0, count := 0, mode := .repeating, role := .plain, setting := .halt
          state := .halt, due := false })
    ∧ t.port = { rx := [], dropping := false, hand := none, input := [], tx := [], frames := 0, notices := []
                 lost := false
                 mask := { routeResult := true, zoneClass := true, gateFault := true, gateClear := true, watch := true
                           hours := true, evac := true, cadence := false } }
    ∧ t.pending = s.pending ∧ t.free = s.free

/-- The state after a hard reset has every property that the invariants below keep. -/
def Obligations.ResetMeetsEveryInvariant : Prop :=
  LimitsKept State.reset ∧ IdsDistinct State.reset ∧ Quiet State.reset ∧ CountersInRange State.reset
  ∧ TablesSorted State.reset ∧ IndexAgrees State.reset ∧ MapValid State.reset ∧ CostTablesKept State.reset
  ∧ GatesSound State.reset ∧ CensusSound State.reset ∧ WatchesSound State.reset ∧ ModesAgree State.reset
  ∧ ClassesAgree State.reset ∧ TimersSound State.reset ∧ ClockSound State.reset ∧ SessionsAgree State.reset
  ∧ PendingAgrees State.reset ∧ PortSound State.reset

/-! ## Invariants that every step keeps -/

/-- The outstanding count is the number of outcomes owed, and the allowance of 24, the queue's 16 places and the notice
queue's 32 are never passed (R38, R43, R167). -/
def Obligations.EveryStepKeepsTheLimits : Prop := KeptByEveryStep LimitsKept

/-- No two outstanding outcomes come to share a route id (R41). -/
def Obligations.EveryStepKeepsRouteIdsDistinct : Prop := KeptByEveryStep fun s => LimitsKept s ∧ IdsDistinct s

/-- After every step the queue holds no entry while a unit is IDLE, and the sweep has no entry left that it could make (R50,
R148). That both have acted by the end of the step that gives them work is the model's reading (log entry 15). -/
def Obligations.EveryStepLeavesTheArbiterQuiet : Prop := KeptByEveryStep fun s => ModesAgree s ∧ Quiet s

/-- Every counter stays in its range; no pace for EVACUATION and LIFT but 0, and no multiplier below 16, is ever stored
(R14, R20, R23, R25, R82, R91, R94, R111, R163). -/
def Obligations.EveryStepKeepsValuesInRange : Prop := KeptByEveryStep fun s => CountersInRange s ∧ CostTablesKept s

/-- The tables of the map store stay in their form, and the name index holds one entry for each defined listing, in order
(R11). -/
def Obligations.EveryStepKeepsTheNameIndex : Prop := KeptByEveryStep fun s => TablesSorted s ∧ IndexAgrees s

/-- A map in SERVICE stays one that START would accept (R9, R17): `MapValid` rests on `State.invalid`, which
StartEntersService says to be the first failing check of R17's six. -/
def Obligations.EveryStepKeepsTheMapValid : Prop := KeptByEveryStep MapValid

/-- Stuck and recovery timers run exactly when R83 and R85 say, and gate records stay as R75 describes them. -/
def Obligations.EveryStepKeepsGatesSound : Prop := KeptByEveryStep GatesSound

/-- Zone records, the census period and the ring stay as R91, R93, R94 and R104 describe them, each record of the ring
with its 32 occupancies, classes and ESTIMATED flags; and from any state a step leaves the ring as it was, empties it at
a hard reset, or pushes the record of the tick just taken behind all others, so that ticks stand in the order in which
they were pushed. -/
def Obligations.EveryStepKeepsTheCensusSound : Prop :=
  KeptByEveryStep CensusSound ∧ ∀ s t : State, step s = .next t → RingMoves s t

/-- Watch records and the owners of alert pulses stay as R109 to R121 describe them: HOLDOFF with REPORT or PULSE alone,
FIRED with FREEZE or APPLY alone, STAGED with STAGE alone, WAITING with a chained watch alone. -/
def Obligations.EveryStepKeepsWatchesSound : Prop := KeptByEveryStep WatchesSound

/-- Engine mode, evacuation state, due flags, EVAC_ACK and the classes of entries agree (R43, R51, R141, R152). -/
def Obligations.EveryStepKeepsModesAgreeing : Prop := KeptByEveryStep fun s => ModesAgree s ∧ ClassesAgree s

/-- Cadence timers stay as R157 describes them, HALT in LOAD, one MASTER at most, and the day clock in its range (R153). -/
def Obligations.EveryStepKeepsTimersSound : Prop := KeptByEveryStep fun s => TimersSound s ∧ ClockSound s

/-- Every session stays as R125 and R126 describe it, DORMANT in LOAD and in ALERT exactly while evacuation is ACTIVE (R138,
R139). -/
def Obligations.EveryStepKeepsSessionsSound : Prop := KeptByEveryStep SessionsAgree

/-- A session is pending on an id exactly when one NORMAL entry of its screen with that id is queued or in a unit, and
no screen has two entries of a class (R44, R126). -/
def Obligations.EveryStepKeepsPendingRoutesMatched : Prop := KeptByEveryStep PendingAgrees

/-- At most 4 lines wait, and only behind one the handler holds (R163, R165). -/
def Obligations.EveryStepKeepsThePortSound : Prop := KeptByEveryStep PortSound

/-! ## Map store -/

/-- NODE as a put, in LOAD with fields in range: the record becomes the fields given, and no other record and nothing
else but the reply changes (R3). The model's choices: REMOVE=0 and READ=0 are fields left out (log entry 7), and the
reply has no field (log entry 20) and no CLAMPED (log entry 21). -/
def Obligations.NodePutDefinesTheNode : Prop :=
  ∀ (s : State) (tag i : Nat) (a : NodeArgs) (k : NodeKind) (l : Int),
    s.map.mode = .load → i ≤ 2047 → a.kind = some k → a.level = some l → -4 ≤ l → l ≤ 11 → (∀ z ∈ a.zone, z ≤ 31) →
    (∀ t ∈ a.label, 1 ≤ t.length ∧ t.length ≤ 32) → (∀ x ∈ a.remove, x = 0) → (∀ x ∈ a.read, x = 0) →
    ∃ nodes : Table Node,
      exec (.nodePut tag i a) s
        = .next (((s.taken (.nodePut tag i a)).withMap { s.map with nodes := nodes }).reply tag (.ok []))
      ∧ ∀ j, nodes.get j =
          if j = i then some { kind := k, level := l, zone := a.zone.bind (toFin? 32), label := a.label }
          else s.map.nodes.get j

/-- SEG as a put, in LOAD with fields in range: ZONE left out takes the from node's zone as it stands, ZONE=NONE is absent,
STATE left out is OPEN and TRIM left out is 0 (R4). The model's choices: REMOVE=0 and READ=0 are fields left out (log
entry 7), and the reply has no field (log entry 20) and no CLAMPED (log entry 21). -/
def Obligations.SegPutDefinesTheSegment : Prop :=
  ∀ (s : State) (tag i : Nat) (a : SegArgs) (x y len : Nat) (k : SegKind),
    s.map.mode = .load → i ≤ 6143 → a.src = some x → a.dst = some y → x ≤ 2047 → y ≤ 2047 → x ≠ y →
    a.length = some len → 1 ≤ len → len ≤ 4000 → a.kind = some k → (∀ z, a.zone = some (some z) → z ≤ 31) →
    (∀ g ∈ a.group, g ≤ 15 ∧ k = .lift) → (∀ t ∈ a.trim, t ≤ 255) → (∀ v ∈ a.remove, v = 0) →
    (∀ v ∈ a.read, v = 0) →
    ∃ segs : Table Seg,
      exec (.segPut tag i a) s
        = .next (((s.taken (.segPut tag i a)).withMap { s.map with segs := segs }).reply tag (.ok []))
      ∧ ∀ j, segs.get j =
          if j = i then
            some { src := x, dst := y, length := len, kind := k
                   zone := match a.zone with
                     | none => (s.map.nodes.get x).bind Node.zone
                     | some none => none
                     | some (some z) => toFin? 32 z
                   group := a.group.bind (toFin? 16), state := a.state.getD .opened, trim := a.trim.getD 0 }
          else s.map.segs.get j

/-- LISTING as a put, in LOAD with fields in range and the whole week or none of it: the record becomes the fields
given, the demand count is kept, and the schedule state is formed at once from the day clock (R7, R8); a name index that
agreed with the listings agrees with them after the put, in the order of R11. The model's choices: REMOVE=0 is the field
left out (log entry 7), and the reply has no field (log entry 20) and no CLAMPED (log entry 21). -/
def Obligations.ListingPutDefinesTheListing : Prop :=
  ∀ (s : State) (tag i : Nat) (a : ListingArgs) (name : Text) (cat : Nat) (doors : List Nat)
    (week : Option (Vector DayEntry 7)) (o : Override),
    s.map.mode = .load → i ≤ 1023 → a.name = some name → 1 ≤ name.length → name.length ≤ 32 → a.category = some cat →
    cat ≤ 63 → a.doors = some doors → 1 ≤ doors.length → doors.length ≤ 4 → doors.Nodup → (∀ d ∈ doors, d ≤ 2047) →
    (∀ n : Fin 7, a.days[n] = week.map fun w => w[n]) → (∀ w ∈ week, ∀ n : Fin 7, dayOk w[n] = true) →
    overrideOf? (a.override.getD .absent) a.target = some o → (∀ m ∈ a.target, m ≤ 1023) →
    (∀ v ∈ a.remove, v = 0) →
    ∃ (listings : Table Listing) (index : List (Text × Nat)),
      exec (.listingPut tag i a) s
        = .next (((s.taken (.listingPut tag i a)).withMap
            { s.map with listings := listings, nameIndex := index }).reply tag (.ok []))
      ∧ (∀ j, listings.get j =
          if j = i then
            some { name := name, category := cat, doors := doors, override := o
                   demand := ((s.map.listings.get i).map Listing.demand).getD 0
                   hours := week.map fun w =>
                     { week := w
                       state := match s.clock.clock with
                         | none => .unknown
                         | some c => if openAt w c.weekday c.minute then .opened else .closed } }
          else s.map.listings.get j)
      ∧ (IndexAgrees s → indexSorted index
          ∧ ∀ e : Text × Nat, e ∈ index ↔ ∃ l, listings.get e.2 = some l ∧ e.1 = foldName l.name)

/-- SCREEN as a declaration, in LOAD with fields in range: IDLE is stored clamped to 15 to 600 s, a new screen gets a
DORMANT session, and a screen declared already keeps its session but for its language (R15, R124). A declaration that
carries REMOVE=0 or READ=0 is a put by the model's choice (log entry 7). -/
def Obligations.ScreenDeclareMakesTheSession : Prop :=
  ∀ (s : State) (tag : Nat) (n : Fin 48) (a : ScreenArgs) (p : Nat),
    s.map.mode = .load → a.point = some p → p ≤ 2047 → (∀ t, a.cadence = some (some t) → t ≤ 7) →
    (∀ l ∈ a.language, l ≤ 7) → (∀ x ∈ a.remove, x = 0) → (∀ x ∈ a.read, x = 0) →
    ∃ d : ScreenDecl,
      (d.point = p ∧ d.language = a.language.getD 0 ∧ d.cadence = (a.cadence.bind id).bind (toFin? 8)
        ∧ d.idleTimeout = max 15 (min 600 (a.idle.getD 90)))
      ∧ exec (.screenDeclare tag n a) s
          = .next (((s.taken (.screenDeclare tag n a)).withScreens
              (s.screens.set n (some
                { decl := d
                  session := match s.screens[n] with
                    | some c => { c.session with language := d.language }
                    | none =>
                      { state := .dormant, language := d.language, profile := .standard, stack := [], pending := none
                        shown := none, evac := none, idle := none } }))).reply tag
              (.ok [(.clamped, .num (match a.idle with
                | none => 0
                | some x => if 15 ≤ x ∧ x ≤ 600 then 0 else 1))]))

/-- A removal in LOAD of a record that is defined makes that record undefined and leaves the others; MAP-CLEAR empties the
structural part of the map store and undeclares every screen (R3, R4, R7, R15, R16). That the replies of removals and of
MAP-CLEAR have no field (log entry 20) and no CLAMPED (log entry 21) is the model's choice. -/
def Obligations.RemovalsUndefineTheRecord : Prop :=
  ∀ (s : State) (tag i : Nat), s.map.mode = .load →
    (∀ n, s.map.nodes.get i = some n → i ≤ 2047 →
      ∃ nodes : Table Node,
        exec (.nodeRemove tag i { remove := some 1 }) s
          = .next (((s.taken (.nodeRemove tag i { remove := some 1 })).withMap { s.map with nodes := nodes }).reply tag
              (.ok []))
        ∧ ∀ j, nodes.get j = if j = i then none else s.map.nodes.get j)
    ∧ (∀ g, s.map.segs.get i = some g → i ≤ 6143 →
      ∃ segs : Table Seg,
        exec (.segRemove tag i { remove := some 1 }) s
          = .next (((s.taken (.segRemove tag i { remove := some 1 })).withMap { s.map with segs := segs }).reply tag
              (.ok []))
        ∧ ∀ j, segs.get j = if j = i then none else s.map.segs.get j)
    ∧ (∀ l, s.map.listings.get i = some l → i ≤ 1023 →
      ∃ (listings : Table Listing) (index : List (Text × Nat)),
        exec (.listingRemove tag i { remove := some 1 }) s
          = .next (((s.taken (.listingRemove tag i { remove := some 1 })).withMap
              { s.map with listings := listings, nameIndex := index }).reply tag (.ok []))
        ∧ (∀ j, listings.get j = if j = i then none else s.map.listings.get j)
        ∧ ∀ e, e ∈ index ↔ e ∈ s.map.nameIndex ∧ e.2 ≠ i)
    ∧ (∀ (n : Fin 48) (c : Screen), s.screens[n] = some c →
        exec (.screenUndeclare tag n { remove := some 1 }) s
          = .next (((s.taken (.screenUndeclare tag n { remove := some 1 })).withScreens (s.screens.set n none)).reply
              tag (.ok [])))
    ∧ ∃ t : State, exec (.mapClear tag) s = .next (t.reply tag (.ok []))
        ∧ t.map = { s.map with nodes := [], segs := [], listings := [], nameIndex := [], liftWaits := t.map.liftWaits }
        ∧ (∀ k : Fin 16, t.map.liftWaits[k] = 0) ∧ (∀ n : Fin 48, t.screens[n] = none)
        ∧ t = ((s.taken (.mapClear tag)).withMap t.map).withScreens t.screens

/-- The reads of single records answer the stored fields, in either mode, and change nothing (R3, R4, R6, R15, R24,
R26). The field name WAIT of the LIFT-WAIT read, and VALUE or VALUES of the PACE and MULT reads, are the model's choice
where the rules name no field (log entry 20). -/
def Obligations.RecordReadsReportWhatIsStored : Prop :=
  ∀ (s : State) (tag i : Nat),
    (∀ n, s.map.nodes.get i = some n → i ≤ 2047 →
      exec (.nodeRead tag i { read := some 1 }) s
        = .next ((s.taken (.nodeRead tag i { read := some 1 })).reply tag (.ok
            [(.index, .num i), (.kind, .word (nodeKindWord n.kind)), (.level, .int n.level), (.zone, finOrNone n.zone),
             (.label, match n.label with | none => .word .absent | some t => .text t)])))
    ∧ (∀ g, s.map.segs.get i = some g → i ≤ 6143 →
      exec (.segRead tag i { read := some 1 }) s
        = .next ((s.taken (.segRead tag i { read := some 1 })).reply tag (.ok
            [(.index, .num i), (.fromSide, .num g.src), (.toSide, .num g.dst), (.length, .num g.length),
             (.kind, .word (segKindWord g.kind)), (.zone, finOrNone g.zone), (.group, finOrNone g.group),
             (.state, .word (openStateWord g.state)), (.trim, .num g.trim)])))
    ∧ (∀ (n : Fin 48) (c : Screen), s.screens[n] = some c →
      exec (.screenRead tag n { read := some 1 }) s
        = .next ((s.taken (.screenRead tag n { read := some 1 })).reply tag (.ok
            [(.screen, .num n), (.point, .num c.decl.point), (.cadence, finOrNone c.decl.cadence),
             (.language, .num c.decl.language), (.idle, .num c.decl.idleTimeout)])))
    ∧ (∀ g : Fin 16, exec (.liftWaitRead tag g) s
        = .next ((s.taken (.liftWaitRead tag g)).reply tag (.ok [(.wait, .num s.map.liftWaits[g])])))
    ∧ (∀ p k, exec (.paceRead tag p (some k)) s
        = .next ((s.taken (.paceRead tag p (some k))).reply tag (.ok [(.value, .num (s.map.paceOf p k))])))
    ∧ (∀ p, exec (.paceRead tag p none) s
        = .next ((s.taken (.paceRead tag p none)).reply tag (.ok
            [(.values, .nums ([.walk, .ramp, .stairs, .escalator, .lift, .travelator, .door, .service].map
              (s.map.paceOf p)))])))
    ∧ (∀ p c, exec (.multRead tag p (some c)) s
        = .next ((s.taken (.multRead tag p (some c))).reply tag (.ok [(.value, .num (s.map.multOf p c))])))
    ∧ ∀ p, exec (.multRead tag p none) s
        = .next ((s.taken (.multRead tag p none)).reply tag (.ok
            [(.values, .nums ([.clear, .busy, .crowded].map (s.map.multOf p)))]))

/-- What a bump does by engine mode and evacuation state: nothing in LOAD; in SERVICE the generation moves on by one,
wrapping, and every BUSY unit sets CHANGED; while evacuation is ACTIVE, also the due flag of every declared screen with
no EVACUATION entry waiting is set, and the sweep then acts (R20, R22, R148). That the sweep acts within the event of
the bump is the model's reading (log entry 15). -/
def Obligations.BumpMarksUnitsAndScreens : Prop :=
  ∀ s : State,
    (s.map.mode = .load → s.bump = s)
    ∧ (s.map.mode = .service →
        ∃ t : State, s.bump = (if s.evac.state = .active then t.settle else t)
          ∧ t = ((s.withMap { s.map with generation := (s.map.generation + 1) % 4294967296 }).withUnits
              { a := s.units.a.map fun x => { x with changed := true }
                b := s.units.b.map fun x => { x with changed := true } }).withEvac { s.evac with due := t.evac.due }
          ∧ ∀ n : Fin 48, t.evac.due[n] = true ↔
              s.evac.due[n] = true ∨ (s.evac.state = .active ∧ s.screens[n].isSome = true
                ∧ ∀ e ∈ s.queue.entries, ¬ (e.cls = .evacuation ∧ e.origin = .screen n)))

/-- The dynamic edits of a defined record: SEG-STATE stores and bumps only when the state changes; SEG-TRIM, LIFT-WAIT
and OVERRIDE store and bump always; each replies with the generation after the edit (R2, R5, R6, R9). That these replies
carry GEN alone and no CLAMPED, since the verbs have no clamped field, is the model's choice (log entry 21). -/
def Obligations.DynamicEditsStoreAndBump : Prop :=
  ∀ (s : State) (tag : Nat),
    (∀ (i : Nat) (g : Seg) (v : OpenState), i ≤ 6143 → s.map.segs.get i = some g →
      (g.state = v → exec (.segState tag i v) s
        = .next ((s.taken (.segState tag i v)).reply tag (.ok [(.gen, .num s.map.generation)])))
      ∧ (g.state ≠ v → ∃ t : State, t = ((s.taken (.segState tag i v)).withMap
            { s.map with segs := s.map.segs.put i { g with state := v } }).bump
          ∧ exec (.segState tag i v) s = .next (t.reply tag (.ok [(.gen, .num t.map.generation)]))))
    ∧ (∀ (i x : Nat) (g : Seg), i ≤ 6143 → x ≤ 255 → s.map.segs.get i = some g →
      ∃ t : State, t = ((s.taken (.segTrim tag i x)).withMap
            { s.map with segs := s.map.segs.put i { g with trim := x } }).bump
        ∧ exec (.segTrim tag i x) s = .next (t.reply tag (.ok [(.gen, .num t.map.generation)])))
    ∧ (∀ (g : Fin 16) (w : Nat), w ≤ 255 →
      ∃ t : State, t = ((s.taken (.liftWait tag g w)).withMap
            { s.map with liftWaits := s.map.liftWaits.set g w }).bump
        ∧ exec (.liftWait tag g w) s = .next (t.reply tag (.ok [(.gen, .num t.map.generation)])))
    ∧ ∀ (i : Nat) (l : Listing) (w : OverrideWord) (m : Option Nat) (o : Override), i ≤ 1023 → (∀ x ∈ m, x ≤ 1023) →
      s.map.listings.get i = some l → overrideOf? w m = some o →
      (s.map.mode = .service → ∀ x ∈ m, x ≠ i ∧ (s.map.listings.get x).isSome) →
      ∃ t : State, t = ((s.taken (.override tag i w m)).withMap
            { s.map with listings := s.map.listings.put i { l with override := o } }).bump
        ∧ exec (.override tag i w m) s = .next (t.reply tag (.ok [(.gen, .num t.map.generation)]))

/-- The directory queries, in either mode. SEARCH gives the listings of the name index whose folded name begins with the
folded text and that have the category, at most 16 past the first START, with MORE. LOOKUP gives the whole record in
R13's order, the effective state being the first line of R10's table that holds. DEMAND gives one listing's count or
every count above 0, and sets to 0 what it was asked about once read with CLEAR=1, and changes nothing without CLEAR.
Values out of range are refused OUT_OF_RANGE, and an undefined listing NOT_FOUND (R2, R10, R12, R13, R14). That CLEAR=0
is CLEAR left out is the model's choice (log entry 7). -/
def Obligations.DirectoryQueriesAnswer : Prop :=
  ∀ (s : State) (tag : Nat),
    (∀ (text : Text) (cat : Option Nat) (start : Nat), text.length ≤ 8 → (∀ c ∈ cat, c ≤ 63) → start ≤ 1023 →
      ∃ found : List Nat,
        found = ((s.map.nameIndex.filter fun e => (foldName text).isPrefixOf e.1
            && cat.all fun c => (s.map.listings.get e.2).any fun l => l.category == c).map Prod.snd).drop start
        ∧ exec (.search tag text cat start) s
          = .next ((s.taken (.search tag text cat start)).reply tag (.ok
              [(.found, .nums (found.take 16)), (.more, .num (if 16 < found.length then 1 else 0))])))
    ∧ (∀ (text : Text) (cat : Option Nat) (start : Nat), (8 < text.length ∨ (∃ c ∈ cat, 63 < c) ∨ 1023 < start) →
      exec (.search tag text cat start) s
        = .next ((s.taken (.search tag text cat start)).reply tag (.no .outOfRange)))
    ∧ (∀ (i : Nat) (l : Listing) (e : EffState), i ≤ 1023 → s.map.listings.get i = some l →
      e = (match l.override, l.hours with
        | .vacant, _ => .vacant
        | .relocated m, _ => .moved m
        | .forcedClosed, _ => .closed
        | .forcedOpen, _ => .opened
        | .absent, none => .opened
        | .absent, some h =>
          if s.clock.clock = none then .unknown
          else match h.state with
            | .opened => .opened
            | .closed => .closed
            | .unknown => .unknown) →
      s.effective l = e
      ∧ exec (.lookup tag i) s
        = .next ((s.taken (.lookup tag i)).reply tag (.ok
            ([(.listing, .num i), (.name, .text l.name), (.category, .num l.category), (.doors, .nums l.doors)]
              ++ (match l.hours with
                | none => [(.schedule, .word .absent)]
                | some h =>
                  [(.d0, dayVal h.week[0]), (.d1, dayVal h.week[1]), (.d2, dayVal h.week[2]), (.d3, dayVal h.week[3]),
                   (.d4, dayVal h.week[4]), (.d5, dayVal h.week[5]), (.d6, dayVal h.week[6])])
              ++ [(.override, .word (match l.override with
                | .absent => .absent
                | .forcedOpen => .forcedOpen
                | .forcedClosed => .forcedClosed
                | .vacant => .vacant
                | .relocated _ => .relocated))]
              ++ (match l.override with
                | .relocated m => [(.target, .num m)]
                | _ => [])
              ++ (match l.hours with
                | none => []
                | some h => [(.sched, .word (match h.state with
                  | .opened => .opened
                  | .closed => .closed
                  | .unknown => .unknown))])
              ++ [(.state, .word (match e with
                  | .opened => .opened
                  | .closed => .closed
                  | .unknown => .unknown
                  | .vacant => .vacant
                  | .moved _ => .moved)),
                (.demand, .num l.demand)]))))
    ∧ (dayVal .closed = .word .closed ∧ ∀ o c, dayVal (.window o c) = .nums [o, c])
    ∧ (∀ (i : Nat) (l : Listing) (clear : Option Nat), i ≤ 1023 → s.map.listings.get i = some l → (∀ x ∈ clear, x ≤ 1) →
      exec (.demand tag (some i) clear) s
        = .next ((if clear = some 1 then (s.taken (.demand tag (some i) clear)).withMap
              { s.map with listings := s.map.listings.put i { l with demand := 0 } }
            else s.taken (.demand tag (some i) clear)).reply tag
            (.ok [(.listing, .num i), (.count, .num l.demand)])))
    ∧ (∀ clear : Option Nat, (∀ x ∈ clear, x ≤ 1) →
      exec (.demand tag none clear) s
        = .next ((if clear = some 1 then (s.taken (.demand tag none clear)).withMap
              { s.map with listings := s.map.listings.map fun q => (q.1, { q.2 with demand := 0 }) }
            else s.taken (.demand tag none clear)).reply tag
            (.okLines [] ((s.map.listings.filter fun q => 0 < q.2.demand).map fun q =>
              ⟨none, [(.listing, .num q.1), (.count, .num q.2.demand)]⟩))))
    ∧ ∀ i : Nat,
      (1023 < i →
        exec (.lookup tag i) s = .next ((s.taken (.lookup tag i)).reply tag (.no .outOfRange))
        ∧ ∀ clear, exec (.demand tag (some i) clear) s
          = .next ((s.taken (.demand tag (some i) clear)).reply tag (.no .outOfRange)))
      ∧ (i ≤ 1023 → s.map.listings.get i = none →
        exec (.lookup tag i) s = .next ((s.taken (.lookup tag i)).reply tag (.no .notFound))
        ∧ ∀ clear, (∀ x ∈ clear, x ≤ 1) → exec (.demand tag (some i) clear) s
          = .next ((s.taken (.demand tag (some i) clear)).reply tag (.no .notFound)))

/-- START in LOAD on a valid map: with no evacuation PENDING the mode becomes SERVICE and the generation 0, every
session IDLE with its defaults, every cadence timer its run setting, and nothing else but the reply changes; with
evacuation PENDING the entry event follows, so that it is ACTIVE at generation 1 with EVAC_ACK high and every declared
screen in ALERT and due, the EVAC notice posted with CAUSE=START, no entry ended, and the sweep then acts (that no
expiry of a timer stays due is the model's choice, log entry 12); on an invalid map START is refused with the check and
the record, and changes nothing. The check and the record that `State.invalid` names are the first failing one of R17's
six checks, in their order, and the lowest index at which it fails (R17, R18, R138, R139, R146, R148, R151, R152, R160). -/
def Obligations.StartEntersService : Prop :=
  ∀ (s : State) (tag : Nat), s.map.mode = .load →
    (s.invalid = none → s.evac.state ≠ .pending →
      ∃ t : State, exec (.start tag) s = .next (t.reply tag (.ok [(.gen, .num 0)]))
        ∧ t.map = { s.map with mode := .service, generation := 0 }
        ∧ (∀ n : Fin 48, t.screens[n] = (s.screens[n]).map fun c =>
            { c with session :=
                { state := .idle, language := c.decl.language, profile := .standard, stack := [], pending := none
                  shown := none, evac := none, idle := none } })
        ∧ (∀ k : Fin 8, t.clock.timers[k] = { s.clock.timers[k] with state := s.clock.timers[k].setting })
        ∧ t = (((s.taken (.start tag)).withMap t.map).withScreens t.screens).withClock
            { s.clock with timers := t.clock.timers })
    ∧ (s.invalid = none → s.evac.state = .pending →
      ∃ t : State, exec (.start tag) s = .next (t.reply tag (.ok [(.gen, .num 0)]))
        ∧ t.map = { s.map with mode := .service, generation := 1 } ∧ t.evac.state = .active ∧ t.evac.ack = true
        ∧ (∀ n : Fin 48, t.screens[n].isSome = s.screens[n].isSome)
        ∧ (∀ n : Fin 48, ∀ c ∈ t.screens[n], c.session.state = .alert)
        ∧ (ModesAgree s → ∃ u : State, t = u.settle ∧ u.map = t.map
          ∧ (∀ n : Fin 48, u.evac.due[n] = (s.screens[n]).isSome)
          ∧ u.evac = { s.evac with state := .active, ack := true, due := u.evac.due }
          ∧ (∀ n : Fin 48, u.screens[n] = (s.screens[n]).map fun c => { c with session :=
              { state := .alert, language := c.decl.language, profile := .standard, stack := [], pending := none
                shown := none, evac := none, idle := none } })
          ∧ (∀ k : Fin 8, u.clock.timers[k] =
              { s.clock.timers[k] with state := s.clock.timers[k].setting, due := false })
          ∧ u.port = (s.taken (.start tag)).port.post (.evac .active .start s.evac.debounced 1)
          ∧ u = (((((s.taken (.start tag)).withMap u.map).withEvac u.evac).withScreens u.screens).withClock
              { s.clock with timers := u.clock.timers }).withPort u.port))
    ∧ (∀ check index, s.invalid = some (check, index) →
      exec (.start tag) s
        = .next ((s.taken (.start tag)).reply tag
            ⟨.mapInvalid, (.check, .word check) :: (index.map fun i => (Key.index, Val.num i)).toList, none⟩))
    ∧ (TablesSorted s →
      (s.invalid = none ↔ ∀ order i, ¬ StartFailure s order i)
      ∧ ∀ order i, StartFailure s order i →
        (∀ k j, StartFailure s k j → order < k ∨ order = k ∧ i ≤ j) →
        s.invalid = some (startCheckWord order, if order = 6 then none else some i))

/-- STOP in SERVICE: LOAD with the map and its generation kept; every entry ended with its ROUTE_RESULT SERVICE_STOPPED, the
queue's head to tail, then unit A's, then unit B's, so that the outstanding count stays; every session DORMANT, every
timer HALT with its setting, count and page kept; an ACTIVE evacuation PENDING with every due flag clear, EVAC_ACK kept
and the EVAC notice with CAUSE=STOP posted last; nothing else changes but the reply. In LOAD STOP is refused
WRONG_MODE; in SERVICE START, MAP-CLEAR and the puts and removals of NODE, SEG, LISTING and SCREEN are (R1, R2, R7, R19,
R51, R73, R138, R151, R160). That unit A's result stands before unit B's is the model's reading (log entry 16), and so
is that no expiry of a timer stays due (log entry 12). -/
def Obligations.StopLeavesService : Prop :=
  ∀ (s : State) (tag : Nat),
    (s.map.mode = .service →
      ∃ t : State, exec (.stop tag) s = .next (t.reply tag (.ok [(.gen, .num s.map.generation)]))
        ∧ t.map = { s.map with mode := .load }
        ∧ t.queue = { s.queue with entries := [] } ∧ t.units = { a := none, b := none }
        ∧ (∀ n : Fin 48, t.screens[n] = (s.screens[n]).map fun c =>
            { c with session :=
                { state := .dormant, language := c.decl.language, profile := .standard, stack := [], pending := none
                  shown := none, evac := none, idle := none } })
        ∧ (∀ k : Fin 8, t.clock.timers[k] = { s.clock.timers[k] with state := .halt, due := false })
        ∧ t.clock.clock = s.clock.clock ∧ t.gates = s.gates ∧ t.census = s.census ∧ t.watches = s.watches
        ∧ t.evac.ack = s.evac.ack ∧ t.evac.debounced = s.evac.debounced ∧ t.evac.line = s.evac.line
        ∧ t.free = s.free ∧ t.pending = s.pending
        ∧ (s.evac.state = .active → t.evac.state = .pending ∧ ∀ n : Fin 48, t.evac.due[n] = false)
        ∧ (s.evac.state ≠ .active → t.evac = s.evac)
        ∧ (∀ p : Port, p = (s.queue.entries ++ s.units.entries).foldl
              (fun p e => p.post (.routeResult (emptyResult s e .serviceStopped []))) (s.taken (.stop tag)).port →
            t.port = (if s.evac.state = .active then p.post (.evac .pending .stop s.evac.debounced s.map.generation)
              else p))
        ∧ t = (((((s.taken (.stop tag)).withMap t.map).withQueue t.queue).withUnits t.units).withEvac t.evac
            |>.withScreens t.screens |>.withClock { s.clock with timers := t.clock.timers }).withPort t.port)
    ∧ (s.map.mode = .load →
        exec (.stop tag) s = .next ((s.taken (.stop tag)).reply tag (.no .wrongMode)))
    ∧ (s.map.mode = .service → ∀ c : Instr,
        (c = .start tag ∨ c = .mapClear tag
          ∨ (∃ i a, c = .nodePut tag i a ∨ c = .nodeRemove tag i a) ∨ (∃ i a, c = .segPut tag i a ∨ c = .segRemove tag i a)
          ∨ (∃ i a, c = .listingPut tag i a
              ∧ ((∀ n : Fin 7, a.days[n].isSome = true) ∨ ∀ n : Fin 7, a.days[n] = none))
          ∨ (∃ i a, c = .listingRemove tag i a) ∨ (∃ i a, c = .screenDeclare tag i a ∨ c = .screenUndeclare tag i a)) →
        exec c s = .next ((s.taken c).reply tag (.no .wrongMode)))

/-! ## Segment cost -/

/-- PACE and MULT with VALUE store the value, PACE holding EVACUATION and LIFT at 0 and MULT holding every entry to at least
16; no other entry changes, and the edit bumps exactly when the stored value differs from the one before (R24, R26). -/
def Obligations.CostTableWritesStoreAndBump : Prop :=
  ∀ (s : State) (tag v : Nat) (p : Profile), v ≤ 255 →
    (∀ (k : SegKind) (w : Nat), w = (if p = .evacuation ∧ k = .lift then 0 else v) →
      ∃ (m : MapStore) (t : State),
        m = { s.map with pace := m.pace }
        ∧ (∀ q j, m.paceOf q j = if q = p ∧ j = k then w else s.map.paceOf q j)
        ∧ t = (if w = s.map.paceOf p k then (s.taken (.paceWrite tag p (some k) v)).withMap m
              else ((s.taken (.paceWrite tag p (some k) v)).withMap m).bump)
        ∧ exec (.paceWrite tag p (some k) v) s = .next (t.reply tag (.ok
            [(.profile, .word (profileWord p)), (.kind, .word (segKindWord k)), (.value, .num w),
             (.clamped, .num (if w = v then 0 else 1)), (.gen, .num t.map.generation)])))
    ∧ ∀ (c : ZoneClass) (w : Nat), w = max 16 v →
      ∃ (m : MapStore) (t : State),
        m = { s.map with mult := m.mult }
        ∧ (∀ q j, m.multOf q j = if q = p ∧ j = c then w else s.map.multOf q j)
        ∧ t = (if w = s.map.multOf p c then (s.taken (.multWrite tag p (some c) v)).withMap m
              else ((s.taken (.multWrite tag p (some c) v)).withMap m).bump)
        ∧ exec (.multWrite tag p (some c) v) s = .next (t.reply tag (.ok
            [(.profile, .word (profileWord p)), (.cls, .word (classWord c)), (.value, .num w),
             (.clamped, .num (if w = v then 0 else 1)), (.gen, .num t.map.generation)]))

/-- The cost of a usable segment: its pace is from 1 to 255; the base is length times pace over 100, rounded up, from 1
to 10,200; the scaled cost is base times multiplier over 16, rounded up, at least the base and at most 162,563, the
multiplier being 16 where the zone is absent; ten times the trim and, for a LIFT, ten times the group's wait are added;
the sum is held to 9,999, so that the cost is from 1 to 9,999; the direction of travel does not enter. The cost of a
path is the sum of its segments' costs held to 999,999, 0 for the path of no segments alone; the ETA is the reported
cost over 600, rounded up; and of two paths with one ETA the one of lower cost is chosen before the other (R30 to R32,
R34, and of R33 the held sum). -/
def Obligations.SegmentAndPathCostAreFormed : Prop :=
  (∀ (s : State) (p : Profile) (o : Option (Fin 32)) (g : Seg),
    CostTablesKept s → g.usable s p o = true → 1 ≤ g.length → g.length ≤ 4000 → g.trim ≤ 255 →
    ∃ pace base m scaled wait : Nat,
      pace = s.map.paceOf p g.kind ∧ 1 ≤ pace ∧ pace ≤ 255
      ∧ g.length * pace ≤ 100 * base ∧ 100 * base < g.length * pace + 100 ∧ 1 ≤ base ∧ base ≤ 10200
      ∧ m = (match g.zone with | none => 16 | some z => s.map.multOf p s.census.zones[z].cls) ∧ 16 ≤ m ∧ m ≤ 255
      ∧ base * m ≤ 16 * scaled ∧ 16 * scaled < base * m + 16 ∧ base ≤ scaled ∧ 1 ≤ scaled ∧ scaled ≤ 162563
      ∧ 10 * g.trim ≤ 2550
      ∧ (g.kind = .lift → ∃ k : Fin 16, g.group = some k ∧ wait = s.map.liftWaits[k]) ∧ (g.kind ≠ .lift → wait = 0)
      ∧ 10 * wait ≤ 2540
      ∧ g.cost s p = (if 9999 < scaled + 10 * g.trim + 10 * wait then 9999 else scaled + 10 * g.trim + 10 * wait)
      ∧ 1 ≤ g.cost s p ∧ g.cost s p ≤ 9999
      ∧ Seg.cost s p { g with src := g.dst, dst := g.src } = g.cost s p)
  ∧ (∀ costs : List Nat, heldSum costs = (if 999999 < costs.sum then 999999 else costs.sum) ∧ heldSum costs ≤ 999999
      ∧ ((∀ c ∈ costs, 1 ≤ c) → (heldSum costs = 0 ↔ costs = [])))
  ∧ (∀ cost : Nat, cost ≤ 600 * etaOf cost ∧ 600 * etaOf cost < cost + 600)
  ∧ (etaOf 0 = 0 ∧ (∀ n, 1 ≤ n → n ≤ 600 → etaOf n = 1) ∧ (∀ n, 601 ≤ n → n ≤ 1200 → etaOf n = 2)
      ∧ etaOf 999999 = 1667)
  ∧ (∀ s e origin set f p cost u, (deliveredResult s e origin set f p cost u).eta
      = etaOf (deliveredResult s e origin set f p cost u).cost)
  ∧ ∀ p q : Path, etaOf (heldCost p) = etaOf (heldCost q) → heldCost p < heldCost q →
      ChosenBefore p q ∧ ¬ ChosenBefore q p

/-! ## Routes -/

/-- The search finds the path that the tests of R60 choose, over any view whose segments are distinct: a found path is a
path from the origin to the set that is chosen before every other one, and none is found only where there is none. -/
def Obligations.FoundPathIsTheChosenPath : Prop :=
  ∀ (view : List Hop) (origin : Nat) (targets : List Nat), (view.map Hop.seg).Nodup →
    (∀ p, foundPath view origin targets = some p →
      IsPath view targets origin p ∧ ∀ q, IsPath view targets origin q → q ≠ p → ChosenBefore p q)
    ∧ (foundPath view origin targets = none → ∀ q, ¬ IsPath view targets origin q)

/-- The view that an attempt searches holds exactly the usable segments, each once, with its ends and its cost as they stand
(R28, R55). -/
def Obligations.ViewHoldsTheUsableSegments : Prop :=
  ∀ (s : State) (p : Profile) (o : Option (Fin 32)), s.map.segs.wf →
    ((viewOf s p o).map Hop.seg).Nodup
    ∧ ∀ (i : Nat) (h : Hop), h.seg = i → (h ∈ viewOf s p o ↔ ∃ g : Seg, s.map.segs.get i = some g
        ∧ (g.state = .opened ∧ 0 < s.map.paceOf p g.kind
          ∧ (g.kind = .lift → ∃ k : Fin 16, g.group = some k ∧ s.map.liftWaits[k] < 255)
          ∧ (∀ z, g.zone = some z → s.census.zones[z].closed = false ∨ o = some z))
        ∧ h.src = g.src ∧ h.dst = g.dst ∧ h.kind = g.kind ∧ h.length = g.length ∧ h.cost = g.cost s p
        ∧ (h.excepted = true ↔ ∃ z, g.zone = some z ∧ s.census.zones[z].closed = true)
        ∧ (h.estimated = true ↔ ∃ z, g.zone = some z ∧ s.census.zones[z].estimated = true))

/-- The legs of a path: its runs of segments are the path cut where the kind changes and around each DOOR; up to 24 of them
each give one leg, and past 24 the 24th is CONTINUE over the rest; the segments counted are those of the path (R69,
R70). -/
def Obligations.LegsCoverThePath : Prop :=
  ∀ (m : MapStore) (p : Path), ∃ runs : List (List Hop),
    runs.flatten = p
    ∧ (∀ r ∈ runs, r ≠ [] ∧ (∀ h ∈ r, ∀ k ∈ r, h.kind = k.kind) ∧ (1 < r.length → ∀ h ∈ r, h.kind ≠ .door))
    ∧ (∀ i r q, runs[i]? = some r → runs[i + 1]? = some q → ∀ h ∈ r, ∀ k ∈ q, h.kind = k.kind → h.kind = .door)
    ∧ (legsOf m p).length = min 24 runs.length
    ∧ (∀ i r, runs[i]? = some r → (i < 23 ∨ runs.length ≤ 24) → ∃ (h k : Hop) (leg : Leg),
        (legsOf m p)[i]? = some leg ∧ r.head? = some h ∧ r.getLast? = some k ∧ leg.kind = .seg h.kind
        ∧ leg.endNode = k.dst ∧ leg.endLevel = nodeLevel m k.dst
        ∧ leg.distance = min 65535 (r.map Hop.length).sum ∧ leg.count = r.length)
    ∧ (24 < runs.length → ∃ (k : Hop) (leg : Leg),
        (legsOf m p)[23]? = some leg ∧ p.getLast? = some k ∧ leg.kind = .continued ∧ leg.endNode = k.dst
        ∧ leg.endLevel = nodeLevel m k.dst
        ∧ leg.distance = min 65535 ((runs.drop 23).flatten.map Hop.length).sum
        ∧ leg.count = (runs.drop 23).flatten.length)
    ∧ ((legsOf m p).map Leg.count).sum = p.length

/-- The id that the next entry takes is the first value from the counter on, wrapping, that no outstanding outcome
carries, and it is found within 24 steps (R41). -/
def Obligations.RouteIdIsFresh : Prop :=
  ∀ s : State, LimitsKept s → IdsDistinct s →
    s.takeId ∉ s.outstandingIds ∧ s.takeId < 65536
    ∧ ∃ k : Nat, k ≤ 24 ∧ s.takeId = (s.queue.nextId + k) % 65536
        ∧ ∀ j, j < k → (s.queue.nextId + j) % 65536 ∈ s.outstandingIds

/-- What ROUTE does when every check of R37 holds: the screen's entry is superseded first, the demand of a LISTING
destination is counted, the entry joins the tail with the next id and the profile given, or the session's as the request
found it, the session becomes ROUTE_PENDING on the id, and the arbiter then acts; the reply gives the id and the id
superseded (R36, R37, R39, R40, R135; the arbiter's place is log entry 11). A ROUTE that fails a check is refused with
the answer of the first of R37's eight that fails, FIELD naming what is not found and LIMIT the limit reached, and
changes nothing. -/
def Obligations.RouteAcceptedJoinsTheQueue : Prop :=
  (∀ (s : State) (tag : Nat) (a : RouteArgs) (o : Origin) (d : Dest),
    s.map.mode = .service → s.evac.state ≠ .active →
    (match o with
      | .screen n => a.screen = some n.val ∧ a.src = none ∧ ∃ c, s.screens[n] = some c ∧ c.session.state ≠ .dormant
      | .node n => a.screen = none ∧ a.src = some n ∧ n ≤ 2047 ∧ (s.map.nodes.get n).isSome = true) →
    (match d with
      | .listing l => a.listing = some l ∧ a.dst = none ∧ a.category = none ∧ a.exit = none ∧ l ≤ 1023
          ∧ (s.map.listings.get l).isSome = true
      | .node n => a.listing = none ∧ a.dst = some n ∧ a.category = none ∧ a.exit = none ∧ n ≤ 2047
          ∧ (s.map.nodes.get n).isSome = true
      | .category k => a.listing = none ∧ a.dst = none ∧ a.category = some k ∧ a.exit = none ∧ k ≤ 63
      | .exit => a.listing = none ∧ a.dst = none ∧ a.category = none ∧ a.exit = some 1) →
    s.queue.outstanding < 24 →
    (s.queue.entries.filter fun e => !(e.cls == .normal && e.origin == o && o.screen?.isSome)).length < 16 →
    ∃ (v u : State) (id : Nat) (p : Profile),
      v = (match o with
        | .screen n => (s.taken (.route tag a)).endScreenEntry n .superseded
        | .node _ => s.taken (.route tag a))
      ∧ id = v.takeId
      ∧ p = (match a.profile, o with
        | some q, _ => q
        | none, .screen n => ((s.screens[n]).map fun c => c.session.profile).getD .standard
        | none, .node _ => .standard)
      ∧ exec (.route tag a) s = .next (u.settle.reply tag (.ok ([(.route, .num id), (.cls, .word .normal)]
          ++ (match o with
            | .screen n => ((s.screenEntry? n).map fun old => (Key.superseded, Val.num old)).toList
            | .node _ => []))))
      ∧ u.queue = { entries := v.queue.entries ++ [{ id := id, origin := o, dest := d, profile := p, cls := .normal }]
                    nextId := (id + 1) % 65536, outstanding := v.queue.outstanding + 1 }
      ∧ u.map = { v.map with listings := u.map.listings }
      ∧ (∀ j, u.map.listings.get j =
          if d = .listing j then (v.map.listings.get j).map fun l => { l with demand := min 65535 (l.demand + 1) }
          else v.map.listings.get j)
      ∧ (∀ n : Fin 48, u.screens[n] =
          if o = .screen n then (v.screens[n]).map fun c =>
            { c with session := { c.session with state := .routePending, pending := some id, shown := none
                                                 idle := some ⟨c.decl.idleTimeout, 0⟩ } }
          else v.screens[n])
      ∧ u = ((v.withMap u.map).withQueue u.queue).withScreens u.screens)
  ∧ ∀ (s : State) (tag : Nat) (a : RouteArgs), RefusedByFirst (.route tag a) tag s
      [(s.map.mode = .service, .no .wrongMode),
       (s.evac.state ≠ .active, .no .evacActive),
       ((∀ n ∈ a.screen, n ≤ 47) ∧ (∀ n ∈ a.src, n ≤ 2047) ∧ (∀ n ∈ a.dst, n ≤ 2047) ∧ (∀ n ∈ a.listing, n ≤ 1023)
          ∧ (∀ n ∈ a.category, n ≤ 63) ∧ (∀ n ∈ a.exit, n = 1), .no .outOfRange),
       (a.screen.toList.length + a.src.toList.length = 1
          ∧ a.listing.toList.length + a.dst.toList.length + a.category.toList.length + a.exit.toList.length = 1,
        .no .conflict),
       (∀ k ∈ a.screen, ∃ n : Fin 48, n.val = k ∧ s.screens[n].isSome = true, ⟨.notFound, [(.field, .key .screen)], none⟩),
       (∀ k ∈ a.src, (s.map.nodes.get k).isSome = true, ⟨.notFound, [(.field, .key .fromSide)], none⟩),
       (∀ k ∈ a.listing, (s.map.listings.get k).isSome = true, ⟨.notFound, [(.field, .key .listing)], none⟩),
       (∀ k ∈ a.dst, (s.map.nodes.get k).isSome = true, ⟨.notFound, [(.field, .key .toSide)], none⟩),
       (∀ (n : Fin 48) (c : Screen), a.screen = some n.val → s.screens[n] = some c → c.session.state ≠ .dormant,
        .no .wrongMode),
       (s.queue.outstanding < 24, ⟨.queueFull, [(.limit, .word .outcomes)], none⟩),
       ((match a.screen with
          | none => s.queue.entries.length
          | some k => (s.queue.entries.filter fun (e : Entry) =>
              !(e.cls == .normal && e.origin.screen?.map Fin.val == some k)).length) < 16,
        ⟨.queueFull, [(.limit, .word .queue)], none⟩)]

/-- How a NORMAL entry is ended by ROUTE-CANCEL, by a later ROUTE of its screen and by a withdrawal: it leaves the queue
or its unit, its ROUTE_RESULT is posted with the outcome, its id, screen, class and the generation now, and no flag,
listing, arrival, cost, ETA or legs, the session that is pending on it takes a CANCELLED, and the arbiter then acts; the
outstanding count stays. ROUTE-CANCEL of an id above 65,535 is refused OUT_OF_RANGE, of one that no entry and no attempt
holds NOT_FOUND, and of an EVACUATION entry's EVAC_ACTIVE (R38, R44 to R47, R49, R66, R67, R72, R136). -/
def Obligations.EntryEndedPostsItsOutcome : Prop :=
  (∀ (s : State) (e : Entry) (o : RouteOutcome) (flags : List RouteFlag), emptyResult s e o flags =
    { id := e.id, screen := (match e.origin with | .screen n => some n | .node _ => none), cls := e.cls, outcome := o
      flags := flags, listing := none, arrival := none, cost := 0, eta := 0, generation := s.map.generation, legs := [] })
  ∧ (∀ (s : State) (e : Entry) (u : State), IdsDistinct s → e.cls = .normal →
    (e ∈ s.queue.entries ∨ e ∈ s.units.entries) →
    u.queue = { s.queue with entries := s.queue.entries.filter fun x => !(x.id == e.id) } →
    u.units = { a := s.units.a.filter fun a => !(a.entry.id == e.id), b := s.units.b.filter fun a => !(a.entry.id == e.id) } →
    u = (s.withQueue u.queue).withUnits u.units →
    (∀ tag, e.id ≤ 65535 → ∃ t : State,
      exec (.routeCancel tag e.id) s = .next (t.settle.reply tag (.ok
        [(.route, .num e.id), (.was, .word (if e ∈ s.queue.entries then .queued
            else if ∃ a, s.units.a = some a ∧ a.entry = e then .a else .b))]))
      ∧ (∀ n : Fin 48, t.screens[n] = (s.screens[n]).map fun c =>
          if e.origin = .screen n ∧ c.session.state = .routePending ∧ c.session.pending = some e.id then
            { c with session := { c.session with state := .active, pending := none
                                                 idle := some ⟨c.decl.idleTimeout, 0⟩ } }
          else c)
      ∧ t = ((u.withPort (s.port.answered (.routeCancel tag e.id))).post
              (.routeResult (emptyResult s e .cancelled []))).withScreens t.screens)
    ∧ ∀ (n : Fin 48) (o : RouteOutcome), entriesOf s .normal n = [e] → (o = .superseded ∨ o = .withdrawn) →
        s.endScreenEntry n o = (u.post (.routeResult (emptyResult s e o []))).settle)
  ∧ ∀ (s : State) (tag id : Nat),
    (65535 < id →
      exec (.routeCancel tag id) s = .next ((s.taken (.routeCancel tag id)).reply tag (.no .outOfRange)))
    ∧ (id ≤ 65535 → (∀ e ∈ s.queue.entries ++ s.units.entries, e.id ≠ id) →
      exec (.routeCancel tag id) s = .next ((s.taken (.routeCancel tag id)).reply tag (.no .notFound)))
    ∧ ∀ e ∈ s.queue.entries ++ s.units.entries, IdsDistinct s → e.id = id → e.cls = .evacuation →
      exec (.routeCancel tag id) s = .next ((s.taken (.routeCancel tag id)).reply tag (.no .evacActive))

/-- The arbiter and the sweep act one at a time until neither can: the head of the queue goes to unit A if it is IDLE,
else to unit B; failing that, while evacuation is ACTIVE with room in the queue and the allowance, the lowest screen
that is due with no entry of its own gets one, its due flag cleared (R43, R50, R52, R148). That the arbiter acts before
the sweep wherever both could, and both until neither can in the step that gives them work, is the model's reading (log
entry 15). -/
def Obligations.ArbiterAndSweepActInTurn : Prop :=
  ∀ s : State,
    (∀ (e : Entry) (rest : List Entry), s.queue.entries = e :: rest →
      (s.units.a = none →
        s.settle = ((s.withQueue { s.queue with entries := rest }).startAttempt .a e 1).settle)
      ∧ (s.units.a.isSome = true → s.units.b = none →
        s.settle = ((s.withQueue { s.queue with entries := rest }).startAttempt .b e 1).settle))
    ∧ ((s.queue.entries = [] ∨ s.units.a.isSome = true ∧ s.units.b.isSome = true) →
      (∀ n : Fin 48, s.evac.state = .active → s.queue.entries.length < 16 → s.queue.outstanding < 24 →
        (∃ c, s.screens[n] = some c) → s.evac.due[n] = true → entriesOf s .evacuation n = [] →
        (∀ k : Fin 48, k < n → ¬ ((s.screens[k]).isSome = true ∧ s.evac.due[k] = true ∧ entriesOf s .evacuation k = [])) →
        s.settle = ((s.withQueue
              { entries := s.queue.entries.takeWhile (fun x => x.cls == .evacuation)
                  ++ { id := s.takeId, origin := .screen n, dest := .exit, profile := .evacuation, cls := .evacuation }
                    :: s.queue.entries.dropWhile (fun x => x.cls == .evacuation)
                nextId := (s.takeId + 1) % 65536, outstanding := s.queue.outstanding + 1 }).withEvac
            { s.evac with due := s.evac.due.set n false }).settle)
      ∧ ((s.evac.state ≠ .active ∨ 16 ≤ s.queue.entries.length ∨ 24 ≤ s.queue.outstanding
          ∨ ∀ n : Fin 48, ¬ ((s.screens[n]).isSome = true ∧ s.evac.due[n] = true ∧ entriesOf s .evacuation n = [])) →
        s.settle = s))

/-- A start event takes the destination, the origin and the map as they stand, and clears CHANGED. A LISTING resolves by its
effective state, a relocation followed one step; a NODE to itself; a CATEGORY to the doors of its OPEN and UNKNOWN
listings, failing those to the doors of its CLOSED ones with DEST_CLOSED, in ascending listing index and slot order, each
node once and 64 at most; an EXIT to the first 64 EXIT nodes whose zone is absent, open or the origin's own, marked where
the exception alone admits them. The attempt completes at once exactly where resolution fails or the origin is in the
set, as a completion event would then complete it (R55 to R59, R63). -/
def Obligations.StartEventTakesTheMapAsItStands : Prop :=
  (formSet [] = [] ∧ ∀ (ts : List Target) (t : Target), formSet (ts ++ [t]) =
      if 64 ≤ (formSet ts).length ∨ ∃ y ∈ formSet ts, y.node = t.node then formSet ts else formSet ts ++ [t])
  ∧ ∀ (s : State) (u : UnitName) (e : Entry) (n : Nat) (doors : Nat → Listing → List Target),
    doors = (fun l r => r.doors.map fun d =>
      { node := d, listing := some l, unknown := decide (s.effective r = .unknown), excepted := false }) →
    ∃ (x : Attempt) (zone : Option (Fin 32)),
    x = { entry := e, number := n, changed := false, origin := x.origin, resolution := x.resolution
          view := viewOf s e.profile zone }
    ∧ zone = (x.origin.bind fun k => (s.map.nodes.get k).bind Node.zone)
    ∧ (∀ k : Fin 48, e.origin = .screen k → x.origin = (s.screens[k]).map fun c => c.decl.point)
    ∧ (∀ k, e.origin = .node k → x.origin = some k)
    ∧ (∀ l r, e.dest = .listing l → s.map.listings.get l = some r →
        (s.effective r = .opened → x.resolution = .targets (formSet (doors l r)) {})
        ∧ (s.effective r = .unknown → x.resolution = .targets (formSet (doors l r)) { hoursUnknown := true })
        ∧ (s.effective r = .closed → x.resolution = .targets (formSet (doors l r)) { destClosed := true })
        ∧ (s.effective r = .vacant → x.resolution = .failed .noDestination)
        ∧ ∀ m q, s.effective r = .moved m → s.map.listings.get m = some q →
          (s.effective q = .opened → x.resolution = .targets (formSet (doors m q)) { moved := true })
          ∧ (s.effective q = .unknown →
              x.resolution = .targets (formSet (doors m q)) { moved := true, hoursUnknown := true })
          ∧ (s.effective q = .closed →
              x.resolution = .targets (formSet (doors m q)) { moved := true, destClosed := true })
          ∧ (s.effective q = .vacant ∨ (∃ k, s.effective q = .moved k) → x.resolution = .failed .unresolvedMove))
    ∧ (∀ k, e.dest = .node k →
        x.resolution = .targets [{ node := k, listing := none, unknown := false, excepted := false }] {})
    ∧ (∀ (k : Nat) (first second : Table Listing), e.dest = .category k →
        first = s.map.listings.filter (fun q =>
          decide (q.2.category = k ∧ (s.effective q.2 = .opened ∨ s.effective q.2 = .unknown))) →
        second = s.map.listings.filter (fun q => decide (q.2.category = k ∧ s.effective q.2 = .closed)) →
        (first ≠ [] → x.resolution = .targets (formSet (first.flatMap fun q => doors q.1 q.2)) {})
        ∧ (first = [] → second ≠ [] →
            x.resolution = .targets (formSet (second.flatMap fun q => doors q.1 q.2)) { destClosed := true })
        ∧ (first = [] → second = [] → x.resolution = .failed .noDestination))
    ∧ (∀ exits : List Target, e.dest = .exit →
        exits = (s.map.nodes.filterMap fun q =>
          match q.2.kind, q.2.zone with
          | .exit, none => some { node := q.1, listing := none, unknown := false, excepted := false }
          | .exit, some z =>
            if s.census.zones[z].closed = false then
              some { node := q.1, listing := none, unknown := false, excepted := false }
            else if zone = some z then some { node := q.1, listing := none, unknown := false, excepted := true }
            else none
          | _, _ => none).take 64 →
        (exits ≠ [] → x.resolution = .targets exits {}) ∧ (exits = [] → x.resolution = .failed .noExit))
    ∧ (x.immediate = true ↔ (∃ o, x.resolution = .failed o)
        ∨ ∃ set f k t, x.resolution = .targets set f ∧ x.origin = some k ∧ t ∈ set ∧ t.node = k)
    ∧ (x.immediate = false → s.startAttempt u e n = s.withUnits (s.units.set u (some x)))
    ∧ (x.immediate = true →
        s.startAttempt u e n = (s.withUnits (s.units.set u (some x))).postFromUnit u (settledResult s x)
        ∧ exec (.completionEvent u) (s.withUnits (s.units.set u (some x))) = .next (s.startAttempt u e n).settle)

/-- The completion event of a BUSY unit. With CHANGED clear the result is posted: a failed resolution gives its outcome
with no flag, a missing path NO_ROUTE with the resolution's flags, each with no listing, arrival or legs and with cost
and ETA 0, a found path DELIVERED with its arrival, cost, ETA and legs and every flag that applies to it, in R71's
order. With CHANGED set, attempts 1 and 2 start again in place with the next number; attempt 3 posts with UNSETTLED,
delivering at the cost of now a found path that is still usable, and otherwise NO_ROUTE_UNSETTLED or the outcome as
before. Posting queues the ROUTE_RESULT, counts a failure, hands the outcome on and leaves the unit IDLE; the arbiter
then acts. A segment is usable at the check by R28's conditions as they stand, at its cost of now. A session pending on
the id takes DELIVERED as a ROUTE page with its settings, eight entries at most, and any failure by becoming ACTIVE, its
timer restarted; one in ALERT keeps the id DELIVERED last. An IDLE unit has no completion event, so that one changes
nothing (log entry 4) (R28, R61, R63 to R66, R68, R71, R72, R136, R139). -/
def Obligations.CompletionPostsOrRetries : Prop :=
  (∀ (s : State) (a : Attempt) (h : Hop),
    (hopUsableNow s a h = true ↔ ∃ g : Seg, s.map.segs.get h.seg = some g
      ∧ g.state = .opened ∧ 0 < s.map.paceOf a.entry.profile g.kind
      ∧ (g.kind = .lift → ∃ k : Fin 16, g.group = some k ∧ s.map.liftWaits[k] < 255)
      ∧ ∀ z, g.zone = some z → s.census.zones[z].closed = false
          ∨ ∃ o q, a.origin = some o ∧ s.map.nodes.get o = some q ∧ q.zone = some z)
    ∧ ∀ g : Seg, s.map.segs.get h.seg = some g → hopCostNow s a h = g.cost s a.entry.profile)
  ∧ (∀ (ses : Session) (id : Nat) (o : RouteOutcome) (d : ScreenDecl),
    ((ses.state ≠ .routePending ∨ ses.pending ≠ some id) → ses.takeOutcome id o d = ses)
    ∧ (ses.state = .routePending → ses.pending = some id →
      ses.takeOutcome id o d =
        if o = .delivered then
          { ses with state := .routeShown, pending := none, shown := some id, idle := some ⟨d.idleTimeout, 0⟩
                     stack := ⟨.route id, ses.language, ses.profile⟩ :: ses.stack.take 7 }
        else if o ∈ [RouteOutcome.noRoute, .noRouteUnsettled, .noDestination, .unresolvedMove, .noExit, .cancelled
            , .evacCancelled, .serviceStopped] then
          { ses with state := .active, pending := none, idle := some ⟨d.idleTimeout, 0⟩ }
        else ses)
    ∧ ses.takeEvacResult id o d =
        if ses.state ≠ .alert then ses
        else if o = .delivered then { ses with evac := some id }
        else if o ∈ [RouteOutcome.noRoute, .noRouteUnsettled, .noExit] then { ses with evac := none }
        else ses)
  ∧ ∀ (s : State) (u : UnitName),
    (s.units.get u = none → exec (.completionEvent u) s = .next s)
    ∧ ∀ a : Attempt, s.units.get u = some a →
      (a.changed = true → a.number < 3 →
        exec (.completionEvent u) s = .next (s.startAttempt u a.entry (a.number + 1)).settle)
      ∧ ((a.changed = true → 3 ≤ a.number) →
        ∃ (r : RouteResult) (t : State), exec (.completionEvent u) s = .next t.settle
          ∧ r.id = a.entry.id ∧ r.screen = a.entry.origin.screen? ∧ r.cls = a.entry.cls
          ∧ r.generation = s.map.generation ∧ (RouteFlag.unsettled ∈ r.flags ↔ a.changed = true)
          ∧ r.flags.Sublist [.atDestination, .moved, .destClosed, .hoursUnknown, .originClosed, .estimated, .truncated
              , .unsettled]
          ∧ (r.outcome ≠ .delivered → r.listing = none ∧ r.arrival = none ∧ r.cost = 0 ∧ r.eta = 0 ∧ r.legs = [])
          ∧ (∀ o, a.resolution = .failed o →
              r.outcome = o ∧ r.listing = none ∧ r.arrival = none ∧ r.cost = 0 ∧ r.eta = 0 ∧ r.legs = []
              ∧ r.flags = if a.changed then [.unsettled] else [])
          ∧ (∀ set f n, a.resolution = .targets set f → a.origin = some n →
              foundPath a.view n (set.map Target.node) = none →
              r.outcome = .noRoute ∧ r.arrival = none ∧ r.cost = 0 ∧ r.legs = []
              ∧ r.flags = (if f.moved then [.moved] else []) ++ (if f.destClosed then [.destClosed] else [])
                  ++ (if f.hoursUnknown then [.hoursUnknown] else []) ++ (if a.changed then [.unsettled] else []))
          ∧ (∀ set f n p, a.resolution = .targets set f → a.origin = some n →
              foundPath a.view n (set.map Target.node) = some p →
              (a.changed = false → r.outcome = .delivered ∧ r.cost = heldSum (p.map Hop.cost))
              ∧ (a.changed = true → (∀ h ∈ p, hopUsableNow s a h = true) →
                  r.outcome = .delivered ∧ r.cost = heldSum (p.map (hopCostNow s a)))
              ∧ (a.changed = true → (∃ h ∈ p, hopUsableNow s a h = false) →
                  r.outcome = .noRouteUnsettled ∧ r.arrival = none ∧ r.cost = 0 ∧ r.legs = []
                  ∧ r.flags = (if f.moved then [.moved] else []) ++ (if f.destClosed then [.destClosed] else [])
                      ++ (if f.hoursUnknown then [.hoursUnknown] else []) ++ [.unsettled])
              ∧ (r.outcome = .delivered → r.eta = etaOf r.cost ∧ r.legs = legsOf s.map p
                  ∧ r.arrival = some (((p.getLast?).map Hop.dst).getD n)
                  ∧ (RouteFlag.atDestination ∈ r.flags ↔ p = []) ∧ (RouteFlag.truncated ∈ r.flags ↔ 24 < (legRuns p).length)
                  ∧ (RouteFlag.estimated ∈ r.flags ↔ ∃ h ∈ p, h.estimated = true)
                  ∧ (RouteFlag.moved ∈ r.flags ↔ f.moved = true) ∧ (RouteFlag.destClosed ∈ r.flags ↔ f.destClosed = true)
                  ∧ ∀ x, targetAt set (((p.getLast?).map Hop.dst).getD n) = some x →
                    r.listing = x.listing
                    ∧ (RouteFlag.originClosed ∈ r.flags ↔ (∃ h ∈ p, h.excepted = true) ∨ x.excepted = true)
                    ∧ (RouteFlag.hoursUnknown ∈ r.flags ↔
                        f.hoursUnknown = true ∨ (∃ k, a.entry.dest = .category k) ∧ x.unknown = true)))
          ∧ t.port = s.port.post (.routeResult r) ∧ t.units = s.units.set u none ∧ t.queue = s.queue
          ∧ t.watches.failures =
              (if r.outcome ∈ [RouteOutcome.noRoute, .noRouteUnsettled, .noExit] then min 65535 (s.watches.failures + 1)
               else s.watches.failures)
          ∧ (∀ n : Fin 48, t.screens[n] = (s.screens[n]).map fun c =>
              if r.screen = some n then
                { c with session := match r.cls with
                    | .normal => c.session.takeOutcome r.id r.outcome c.decl
                    | .evacuation => c.session.takeEvacResult r.id r.outcome c.decl }
              else c)
          ∧ (∀ n : Fin 48, t.evac.due[n] =
              if r.screen = some n ∧ r.cls = .evacuation ∧ r.outcome.isAbort = false ∧ a.changed = false then false
              else s.evac.due[n])
          ∧ t = (((((s.withPort t.port).withUnits t.units).withWatches { s.watches with failures := t.watches.failures
              }).withScreens t.screens).withEvac { s.evac with due := t.evac.due }))

/-! ## Gates -/

/-- A beam line takes its level and nothing else changes. A beam or pair event takes the matured level: at an OFF gate
that is all; at a gate in FAULT the recovery timer runs exactly while both beams are clear; any other gate starts and
stops its stuck timers, moves by the table of R78 (in PULSE it stays CLEAR) and makes the crossings that its mode takes
(R76 to R78, R80, R81, R83, R85). -/
def Obligations.BeamEventsDecode : Prop :=
  ∀ (s : State) (g : Fin 32) (x : Gate), x = s.gates[g] →
    (∀ high : Bool,
      exec (.beamLineChange g .a high) s = .next (s.withGates (s.gates.set g { x with a := { x.a with line := high } }))
      ∧ exec (.beamLineChange g .b high) s
        = .next (s.withGates (s.gates.set g { x with b := { x.b with line := high } })))
    ∧ ∀ (c : Instr) (y : Gate),
      (c = .beamEvent g .a ∧ x.a.line ≠ x.a.debounced ∧ y = { x with a := { x.a with debounced := x.a.line } }
        ∨ c = .beamEvent g .b ∧ x.b.line ≠ x.b.debounced ∧ y = { x with b := { x.b with debounced := x.b.line } }
        ∨ c = .pairEvent g ∧ x.a.line ≠ x.a.debounced ∧ x.b.line ≠ x.b.debounced
          ∧ y = { x with a := { x.a with debounced := x.a.line }, b := { x.b with debounced := x.b.line } }) →
      (x.mode = .off → exec c s = .next (s.withGates (s.gates.set g y)))
      ∧ (x.mode ≠ .off → x.state = .fault →
          exec c s = .next (s.withGates (s.gates.set g { y with recovery := y.levels == (false, false) })))
      ∧ (x.mode ≠ .off → x.state ≠ .fault → ∃ (z : Gate) (cs : List Crossing),
          exec c s = .next (cs.foldl (fun t k => t.cross g k) (s.withGates (s.gates.set g z)))
          ∧ z = { y with state := z.state, a := { y.a with stuck := z.a.stuck }, b := { y.b with stuck := z.b.stuck } }
          ∧ z.a.stuck = (if y.levels.1 = x.levels.1 then x.a.stuck else if y.levels.1 then some x.stuckLimit else none)
          ∧ z.b.stuck = (if y.levels.2 = x.levels.2 then x.b.stuck else if y.levels.2 then some x.stuckLimit else none)
          ∧ (x.mode = .pulse → z.state = .clear
              ∧ cs = (if x.levels.1 = true ∧ y.levels.1 = false then [Crossing.inbound] else [])
                  ++ (if x.levels.2 = true ∧ y.levels.2 = false then [Crossing.outbound] else []))
          ∧ (x.mode ≠ .pulse →
              (y.levels = (false, false) → z.state = .clear)
              ∧ (y.levels = (true, false) → z.state =
                  if x.state ∈ [GateState.clear, .enterA, .midA, .leaveA] then .enterA else .leaveB)
              ∧ (y.levels = (false, true) → z.state =
                  if x.state ∈ [GateState.clear, .enterB, .midB, .leaveB] then .enterB else .leaveA)
              ∧ (y.levels = (true, true) → z.state =
                  if x.state ∈ [GateState.enterA, .midA, .leaveA] then .midA
                  else if x.state ∈ [GateState.enterB, .midB, .leaveB] then .midB else .midUnknown)
              ∧ cs = (if x.state = .leaveA ∧ y.levels = (false, false) then [Crossing.inbound]
                  else if x.state = .leaveB ∧ y.levels = (false, false) ∧ x.mode = .twoWay then [Crossing.outbound]
                  else [])))

/-- A passage through a TWO_WAY or ONE_WAY gate from its A side, beam by beam, counts once: one person more in the
to-zone, one fewer in the from-zone, each clamped on its own with ESTIMATED, and one more in the inbound total; a
passage broken off after both beams counts nothing; and the passage from the B side counts outbound, in TWO_WAY alone
(R78, R79, R80, R82). -/
def Obligations.PassageCountsOnce : Prop :=
  ∀ (s : State) (g : Fin 32) (x : Gate), x = s.gates[g] → (x.mode = .twoWay ∨ x.mode = .oneWay) → x.state = .clear →
    x.invert = false → x.a.line = false → x.a.debounced = false → x.b.line = false → x.b.debounced = false →
    (x.src = none ∨ x.src ≠ x.dst) →
    ∃ t u v : State,
      runAll [.beamLineChange g .a true, .beamEvent g .a, .beamLineChange g .b true, .beamEvent g .b,
              .beamLineChange g .a false, .beamEvent g .a, .beamLineChange g .b false, .beamEvent g .b] s = some t
      ∧ t.gates = s.gates.set g { x with inbound := min 65535 (x.inbound + 1), a := { x.a with stuck := none }
                                         b := { x.b with stuck := none } }
      ∧ (∀ (z : Fin 32) (y : Zone), y = s.census.zones[z] → t.census.zones[z] =
          if x.dst = some z then
            if y.occupancy < 9999 then { y with occupancy := y.occupancy + 1 } else { y with estimated := true }
          else if x.src = some z then
            if 0 < y.occupancy then { y with occupancy := y.occupancy - 1 } else { y with estimated := true }
          else y)
      ∧ t = (s.withGates t.gates).withCensus { s.census with zones := t.census.zones }
      ∧ runAll [.beamLineChange g .a true, .beamEvent g .a, .beamLineChange g .b true, .beamEvent g .b,
                .beamLineChange g .b false, .beamEvent g .b, .beamLineChange g .a false, .beamEvent g .a] s = some u
      ∧ u = s.withGates (s.gates.set g { x with a := { x.a with stuck := none }, b := { x.b with stuck := none } })
      ∧ runAll [.beamLineChange g .b true, .beamEvent g .b, .beamLineChange g .a true, .beamEvent g .a,
                .beamLineChange g .b false, .beamEvent g .b, .beamLineChange g .a false, .beamEvent g .a] s = some v
      ∧ (x.mode = .oneWay → v = u)
      ∧ (x.mode = .twoWay → v.gates = s.gates.set g { x with outbound := min 65535 (x.outbound + 1)
                                                             a := { x.a with stuck := none }
                                                             b := { x.b with stuck := none } }
          ∧ ∀ (z : Fin 32) (y : Zone), y = s.census.zones[z] → v.census.zones[z] =
            if x.src = some z then
              if y.occupancy < 9999 then { y with occupancy := y.occupancy + 1 } else { y with estimated := true }
            else if x.dst = some z then
              if 0 < y.occupancy then { y with occupancy := y.occupancy - 1 } else { y with estimated := true }
            else y)
      ∧ v = (s.withGates v.gates).withCensus { s.census with zones := v.census.zones }

/-- A running stuck timer's expiry brings FAULT: both stuck timers and the recovery timer stopped, the fault flag and
the ESTIMATED flag of each side that is a zone set, GATE_FAULT posted with the state before. A running recovery timer's
expiry brings CLEAR with the fault flag kept, and GATE_CLEAR. A stopped timer does not expire: that its expiry changes
nothing is the model's reading (log entry 4) (R84, R86). -/
def Obligations.StuckGateFaultsAndRecovers : Prop :=
  ∀ (s : State) (g : Fin 32) (x : Gate), x = s.gates[g] →
    (∀ beam : Beam, (beam = .a ∧ x.a.stuck.isSome = true ∨ beam = .b ∧ x.b.stuck.isSome = true) →
      ∃ t : State, exec (.stuckTimerExpiry g beam) s = .next t
        ∧ t.gates = s.gates.set g { x with state := .fault, fault := true, recovery := false
                                           a := { x.a with stuck := none }, b := { x.b with stuck := none } }
        ∧ (∀ z : Fin 32, t.census.zones[z] =
            if x.src = some z ∨ x.dst = some z then { s.census.zones[z] with estimated := true } else s.census.zones[z])
        ∧ t.port = s.port.post (.gateFault g beam x.state)
        ∧ t = ((s.withGates t.gates).withCensus { s.census with zones := t.census.zones }).withPort t.port)
    ∧ (x.a.stuck = none → exec (.stuckTimerExpiry g .a) s = .next s)
    ∧ (x.b.stuck = none → exec (.stuckTimerExpiry g .b) s = .next s)
    ∧ (x.recovery = true → exec (.recoveryTimerExpiry g) s
        = .next ((s.withGates (s.gates.set g { x with state := .clear, recovery := false })).withPort
            (s.port.post (.gateClear g))))
    ∧ (x.recovery = false → exec (.recoveryTimerExpiry g) s = .next s)

/-- GATE with values in range and sides that differ stores the fields given, drops a passage and a FAULT, clears the
fault flag, and starts the stuck timer of each blocked beam unless the mode is OFF; totals and lines stay. Sides that
would name one zone are refused CONFLICT. GATE-READ gives a gate, or every gate whose mode is not OFF in ascending
order, and with CLEAR=1 sets totals to 0 and clears the fault flag of gates not in FAULT. A gate is given as MODE, FROM,
TO, INVERT, STUCK, STATE, LEVELS (A first, 1 for blocked under the stored invert), IN, OUT and FAULT (R76, R87, R88,
R89). That GATE's reply puts GATE first and the fields in this order, and that the single GATE-READ has no GATE, is the
model's choice (log entry 20), and so is CLEAR=0 as CLEAR left out (log entry 7). -/
def Obligations.GateConfiguredAndRead : Prop :=
  (∀ g : Gate, gateFields g =
    [(.mode, .word (match g.mode with | .off => .off | .twoWay => .twoWay | .oneWay => .oneWay | .pulse => .pulse)),
     (.fromSide, match g.src with | none => .word .outside | some z => .num z),
     (.toSide, match g.dst with | none => .word .outside | some z => .num z),
     (.invert, .num (if g.invert then 1 else 0)), (.stuck, .num g.stuckLimit),
     (.state, .word (match g.state with
       | .clear => .clear | .enterA => .enterA | .midA => .midA | .leaveA => .leaveA | .enterB => .enterB | .midB => .midB
       | .leaveB => .leaveB | .midUnknown => .midUnknown | .fault => .fault)),
     (.levels, .nums [if g.a.debounced = g.invert then 0 else 1, if g.b.debounced = g.invert then 0 else 1]),
     (.inbound, .num g.inbound), (.outbound, .num g.outbound), (.fault, .num (if g.fault then 1 else 0))])
  ∧ ∀ (s : State) (tag : Nat) (g : Fin 32) (x : Gate), x = s.gates[g] →
    (∀ (a : GateArgs) (y z : Gate), (∀ n, a.src = some (some n) → n ≤ 31) → (∀ n, a.dst = some (some n) → n ≤ 31) →
      (∀ n ∈ a.invert, n ≤ 1) → (∀ n ∈ a.stuck, 1 ≤ n ∧ n ≤ 255) →
      y = { x with mode := a.mode.getD x.mode
                   src := match a.src with | none => x.src | some none => none | some (some n) => toFin? 32 n
                   dst := match a.dst with | none => x.dst | some none => none | some (some n) => toFin? 32 n
                   invert := (a.invert.map fun n => n == 1).getD x.invert, stuckLimit := a.stuck.getD x.stuckLimit
                   state := .clear, fault := false, recovery := false } →
      z = { y with a := { y.a with stuck := if y.mode ≠ .off ∧ y.levels.1 = true then some y.stuckLimit else none }
                   b := { y.b with stuck := if y.mode ≠ .off ∧ y.levels.2 = true then some y.stuckLimit else none } } →
      (y.src = none ∨ y.src ≠ y.dst →
        exec (.gate tag g a) s
          = .next (((s.taken (.gate tag g a)).withGates (s.gates.set g z)).reply tag
              (.ok ((.gate, .num g) :: gateFields z))))
      ∧ (y.src.isSome = true → y.src = y.dst →
        exec (.gate tag g a) s = .next ((s.taken (.gate tag g a)).reply tag (.no .conflict))))
    ∧ (∀ clear : Option Nat, clear = none ∨ clear = some 0 → exec (.gateRead tag (some g) clear) s
        = .next ((s.taken (.gateRead tag (some g) clear)).reply tag (.ok (gateFields x))))
    ∧ exec (.gateRead tag (some g) (some 1)) s
        = .next (((s.taken (.gateRead tag (some g) (some 1))).withGates (s.gates.set g
              { x with inbound := 0, outbound := 0, fault := x.fault && decide (x.state = .fault) })).reply tag
            (.ok (gateFields x)))
    ∧ ∃ (gates : Vector Gate 32) (lines : List ReplyLine),
        exec (.gateRead tag none (some 1)) s
          = .next (((s.taken (.gateRead tag none (some 1))).withGates gates).reply tag (.okLines [] lines))
        ∧ (∀ clear : Option Nat, clear = none ∨ clear = some 0 → exec (.gateRead tag none clear) s
          = .next ((s.taken (.gateRead tag none clear)).reply tag (.okLines [] lines)))
        ∧ (∀ k : Fin 32, gates[k] = { s.gates[k] with
              inbound := 0, outbound := 0, fault := s.gates[k].fault && decide (s.gates[k].state = .fault) })
        ∧ (∀ l, l ∈ lines ↔ ∃ k : Fin 32, s.gates[k].mode ≠ .off ∧ l = ⟨none, (.gate, .num k) :: gateFields s.gates[k]⟩)
        ∧ lines = ((List.finRange 32).filter fun (k : Fin 32) => decide (s.gates[k].mode ≠ .off)).map
            fun (k : Fin 32) => ⟨none, (.gate, .num k) :: gateFields s.gates[k]⟩

/-! ## Zones and the census -/

/-- ZONE with the values it would store in range: HOLD held to 1 to 60, the margin to the busy threshold less 1, the
below count 0 where a limit or the enable state changed, and ENABLE by R93; the rest of the record and every other zone
stay; the reply gives every field of the record and CLAMPED (R92, R93). That the reply puts ZONE first, then the record
in R107's order, then CLAMPED, is the model's choice (log entry 20). -/
def Obligations.ZoneConfigured : Prop :=
  ∀ (s : State) (tag : Nat) (z : Fin 32) (a : ZoneArgs) (x y w : Zone), x = s.census.zones[z] →
    (∀ e ∈ a.enable, e ≤ 1) → (∀ m ∈ a.margin, m ≤ 999) → 1 ≤ a.busy.getD x.busyAt →
    a.busy.getD x.busyAt ≤ 9998 → a.busy.getD x.busyAt < a.crowded.getD x.crowdedAt →
    a.crowded.getD x.crowdedAt ≤ 9999 →
    y = { x with busyAt := a.busy.getD x.busyAt, crowdedAt := a.crowded.getD x.crowdedAt
                 margin := min (a.margin.getD x.margin) (a.busy.getD x.busyAt - 1)
                 hold := max 1 (min 60 (a.hold.getD x.hold)) } →
    w = { y with
          enable := match a.enable with
            | none => x.enable
            | some e =>
              if e = 1 then .enabled
              else if x.enable = .enabled then (if x.cls = .clear then .disabled else .disabling) else x.enable
          below :=
            if y ≠ x ∨ (a.enable = some 1 ∧ x.enable ≠ .enabled) ∨ (a.enable = some 0 ∧ x.enable = .enabled) then 0
            else x.below } →
    exec (.zone tag z a) s
      = .next (((s.taken (.zone tag z a)).withCensus { s.census with zones := s.census.zones.set z w }).reply tag
          (.ok (zoneFields z w ++ [(.clamped, .num (if (∃ h ∈ a.hold, h < 1 ∨ 60 < h)
              ∨ a.busy.getD x.busyAt - 1 < a.margin.getD x.margin then 1 else 0))])))

/-- A census tick: the tick number moves on by one, wrapping; every ENABLED zone is classed by its rise target and its
release condition and every DISABLING zone brought down one step; no class falls by more; one ZONE_CLASS notice is
posted for each change, in zone order, and one bump made if there is any; the tick's record is pushed into a ring that
is not frozen; and the watches are evaluated last (R95 to R97, R104). That the sweep which the tick's bump brings acts
with the bump, before the record is pushed and the watches are evaluated, is the model's reading (log entry 15). -/
def Obligations.CensusTickClassesRecordsAndEvaluates : Prop :=
  ∀ s : State, ∃ (zones : Vector Zone 32) (notices : List Notice) (u v : State),
    exec .censusTick s = .next ((List.finRange 8).foldl State.watchTurn v)
    ∧ (∀ (z : Fin 32) (x : Zone), x = s.census.zones[z] → zones[z] =
        match x.enable with
        | .disabled => x
        | .disabling =>
          { x with cls := if x.cls = .crowded then .busy else .clear
                   enable := if x.cls = .crowded then .disabling else .disabled }
        | .enabled =>
          if x.crowdedAt ≤ x.occupancy ∧ x.cls ≠ .crowded then { x with cls := .crowded, below := 0 }
          else if x.busyAt ≤ x.occupancy ∧ x.cls = .clear then { x with cls := .busy, below := 0 }
          else if x.cls = .crowded ∧ x.occupancy < x.crowdedAt - x.margin
              ∨ x.cls = .busy ∧ x.occupancy < x.busyAt - x.margin then
            if x.below + 1 = x.hold then
              { x with cls := if x.cls = .crowded then .busy else .clear, below := 0 }
            else { x with below := x.below + 1 }
          else { x with below := 0 })
    ∧ (∀ z : Fin 32, s.census.zones[z].cls = .crowded → zones[z].cls ≠ .clear)
    ∧ notices = (List.finRange 32).filterMap (fun (z : Fin 32) =>
        if s.census.zones[z].cls = zones[z].cls then none
        else some (.zoneClass z s.census.zones[z].cls zones[z].cls ((s.census.tick + 1) % 65536)))
    ∧ u = (notices.foldl State.post
        (s.withCensus { s.census with zones := zones, tick := (s.census.tick + 1) % 65536 })).bumpIf !notices.isEmpty
    ∧ v = (if s.census.frozen then u else u.withCensus { u.census with
        ring := (if s.census.ring.length < 64 then s.census.ring else s.census.ring.drop 1) ++
          [{ tick := (s.census.tick + 1) % 65536, occupancy := zones.toList.map Zone.occupancy
             cls := zones.toList.map Zone.cls, estimated := zones.toList.map Zone.estimated }] })

/-- OCCUPANCY sets a zone's occupancy, held to 9,999 with CLAMPED=1, clears its ESTIMATED flag, and changes nothing
else, so that there is no notice and no bump; the class of a zone that is not ENABLED is the same after the next tick
whatever the count; a ZONE above 31 is refused OUT_OF_RANGE (R102). -/
def Obligations.OccupancyCorrectsTheZone : Prop :=
  ∀ (s : State) (tag k n : Nat),
    (31 < k → exec (.occupancy tag k n) s = .next ((s.taken (.occupancy tag k n)).reply tag (.no .outOfRange)))
    ∧ (∀ z : Fin 32, z.val = k → ∃ x : Zone,
      x = { s.census.zones[z] with occupancy := if 9999 < n then 9999 else n, estimated := false }
      ∧ exec (.occupancy tag k n) s
        = .next (((s.taken (.occupancy tag k n)).withCensus { s.census with zones := s.census.zones.set z x }).reply tag
            (.ok [(.zone, .num k), (.occ, .num x.occupancy), (.clamped, .num (if 9999 < n then 1 else 0))]))
      ∧ (x.enable ≠ .enabled → (Zone.tick x).cls = (Zone.tick s.census.zones[z]).cls)
      ∧ (x.enable = .enabled → x.tick = x.classify))

/-- ZONE-CLOSE and ZONE-OPEN store the flag and bump exactly when it changes. CENSUS-ZERO clears every occupancy, class,
below count and ESTIMATED flag, makes DISABLING zones DISABLED, posts one ZONE_CLASS for each class that was not CLEAR,
and makes one bump if there was any (R100, R103). -/
def Obligations.ClosuresAndCensusZero : Prop :=
  ∀ (s : State) (tag : Nat),
    (∀ (z : Fin 32) (c : Instr) (closing : Bool),
      (c = .zoneClose tag z ∧ closing = true ∨ c = .zoneOpen tag z ∧ closing = false) →
      ∃ t : State, exec c s = .next (t.reply tag
          (.ok [(.zone, .num z), (.closed, .num (if closing then 1 else 0)), (.gen, .num t.map.generation)]))
        ∧ (s.census.zones[z].closed = closing → t = s.taken c)
        ∧ (s.census.zones[z].closed ≠ closing →
            t = ((s.taken c).withCensus { s.census with
              zones := s.census.zones.set z { s.census.zones[z] with closed := closing } }).bump))
    ∧ ∃ (zones : Vector Zone 32) (notices : List Notice) (t : State),
        exec (.censusZero tag) s = .next (t.reply tag
          (.ok [(.changed, .num notices.length), (.gen, .num t.map.generation)]))
        ∧ (∀ z : Fin 32, zones[z] = { s.census.zones[z] with
            occupancy := 0, below := 0, cls := .clear, estimated := false
            enable := if s.census.zones[z].enable = .disabling then .disabled else s.census.zones[z].enable })
        ∧ notices = (List.finRange 32).filterMap (fun (z : Fin 32) =>
            if s.census.zones[z].cls = .clear then none
            else some (.zoneClass z s.census.zones[z].cls .clear s.census.tick))
        ∧ t = (notices.foldl State.post ((s.taken (.censusZero tag)).withCensus { s.census with zones := zones })).bumpIf
            !notices.isEmpty

/-- CENSUS-PERIOD stores 1 to 60 and reads it back; HISTORY-RESUME clears the freeze flag; HISTORY gives up to 8 records
from the one asked for, or from the oldest with RESTART=1 where none has that tick; ZONE-READ gives one zone or all,
each as ZONE, ENABLE, OCC, CLASS, BELOW, CLOSED, EST, BUSY, CROWDED, MARGIN and HOLD (R94, R105, R106, R107). That
RESTART=1 stands last on HISTORY's first line is the model's choice (log entry 20), and so is that NEXT on an empty ring
gets it (log entry 23). -/
def Obligations.CensusReadingsAnswer : Prop :=
  (∀ (i : Nat) (z : Zone), zoneFields i z =
    [(.zone, .num i),
     (.enable, .word (match z.enable with
       | .enabled => .enabled | .disabling => .disabling | .disabled => .disabled)),
     (.occ, .num z.occupancy),
     (.cls, .word (match z.cls with | .clear => .clear | .busy => .busy | .crowded => .crowded)),
     (.below, .num z.below), (.closed, .num (if z.closed then 1 else 0)), (.est, .num (if z.estimated then 1 else 0)),
     (.busy, .num z.busyAt), (.crowded, .num z.crowdedAt), (.margin, .num z.margin), (.hold, .num z.hold)])
  ∧ ∀ (s : State) (tag : Nat),
    (∀ p : Nat, exec (.censusPeriod tag p) s
      = .next (((s.taken (.censusPeriod tag p)).withCensus { s.census with period := max 1 (min 60 p) }).reply tag
          (.ok [(.period, .num (max 1 (min 60 p))), (.clamped, .num (if 1 ≤ p ∧ p ≤ 60 then 0 else 1))])))
    ∧ exec (.censusPeriodRead tag) s
        = .next ((s.taken (.censusPeriodRead tag)).reply tag (.ok [(.period, .num s.census.period)]))
    ∧ exec (.historyResume tag) s
        = .next (((s.taken (.historyResume tag)).withCensus { s.census with frozen := false }).reply tag
            (.ok [(.frozen, .num 0), (.count, .num s.census.ring.length)]))
    ∧ (∀ (next : Option Nat) (records : List HistoryRecord) (missing : Bool), (∀ t ∈ next, t ≤ 65535) →
        (match next with
          | none => records = s.census.ring ∧ missing = false
          | some t =>
            (∃ before r after, s.census.ring = before ++ r :: after ∧ r.tick = t ∧ (∀ q ∈ before, q.tick ≠ t)
              ∧ records = r :: after ∧ missing = false)
            ∨ (∀ q ∈ s.census.ring, q.tick ≠ t) ∧ records = s.census.ring ∧ missing = true) →
        exec (.history tag next) s
          = .next ((s.taken (.history tag next)).reply tag (.okLines
              ([(.count, .num s.census.ring.length), (.frozen, flagVal s.census.frozen)]
                ++ (match records.drop 8 with
                  | [] => [(.more, .num 0)]
                  | r :: _ => [(.more, .num 1), (.next, .num r.tick)])
                ++ (if missing then [(.restart, .num 1)] else []))
              ((records.take 8).map fun r => ⟨none, [(.tick, .num r.tick), (.occ, .nums r.occupancy),
                (.cls, .words (r.cls.map classWord)), (.est, .nums (r.estimated.map bit))]⟩))))
    ∧ (∀ z : Fin 32, exec (.zoneRead tag (some z)) s
        = .next ((s.taken (.zoneRead tag (some z))).reply tag (.ok (zoneFields z s.census.zones[z]))))
    ∧ exec (.zoneRead tag none) s
        = .next ((s.taken (.zoneRead tag none)).reply tag (.okLines [(.tick, .num s.census.tick)]
            ((List.finRange 32).map fun (z : Fin 32) => ⟨none, zoneFields z s.census.zones[z]⟩)))

/-! ## Watches -/

/-- The watch requests: WATCH stores the configuration, DISABLED with remaining loaded, and ends a pulse of its own;
WATCH-ARM loads remaining, clears the occurrence flag and makes a configured watch ARMED, or WAITING if chained;
WATCH-OFF makes it DISABLED and ends its pulse; WATCH-READ reads one watch or all, with the alert lines, each watch's
fields in R122's order (R112, R113, R116, R120 to R122). That WATCH's reply names the watch first
and gives the configuration in R122's order, and that ALERT stands at the end of a single watch's line, is the model's
choice (log entry 20). -/
def Obligations.WatchRequestsConfigureAndArm : Prop :=
  (∀ y : Watch, configFields y =
    (match y.subject with
      | none => []
      | some (.occupancy z) => [(.subject, .word .occupancy), (.zone, .num z)]
      | some (.cls z) => [(.subject, .word .cls), (.zone, .num z)]
      | some (.gateFault g) => [(.subject, .word .gateFault), (.gate, .num g)]
      | some (.demand l) => [(.subject, .word .demand), (.listing, .num l)]
      | some .failures => [(.subject, .word .failures)]
      | some .queueDepth => [(.subject, .word .queueDepth)])
    ++ [(.cmp, .word (match y.cmp with | .atLeast => .atLeast | .below => .below)), (.threshold, .num y.threshold),
        (.count, .num y.countBefore), (.chained, .num (if y.chained then 1 else 0))]
    ++ (match y.action with
      | none => []
      | some .report => [(.action, .word .report)]
      | some (.pulse l) => [(.action, .word .pulse), (.line, .num l)]
      | some .freeze => [(.action, .word .freeze)]
      | some (.apply z) => [(.action, .word .apply), (.target, .num z)]
      | some .stage => [(.action, .word .stage)])
    ++ [(.holdoff, .num y.holdOff)])
  ∧ ∀ (s : State) (tag : Nat) (w : Fin 8) (x : Watch), x = s.watches.watches[w] →
    (∀ (a : WatchArgs) (sub : Subject) (act : WatchAction) (y : Watch),
      watchSubject? a = some sub → watchAction? a = some act → (∀ n ∈ a.listing, n ≤ 1023) → a.threshold ≤ 65535 →
      (∀ n ∈ a.count, n ≤ 255) → (∀ n ∈ a.chained, n ≤ 1) → (∀ n ∈ a.holdOff, 1 ≤ n ∧ n ≤ 255) →
      ¬ (w = 0 ∧ a.chained = some 1) → ¬ (w = 7 ∧ a.action = .stage) →
      y = { configured := true, subject := some sub, cmp := a.cmp, threshold := a.threshold
            countBefore := a.count.getD 0, remaining := a.count.getD 0, chained := decide (a.chained = some 1)
            action := some act, holdOff := a.holdOff.getD 10, state := .disabled, occurred := false } →
      ∃ alerts : Vector (Option (Fin 8)) 4,
        (∀ l : Fin 4, alerts[l] = if s.watches.alerts[l] = some w then none else s.watches.alerts[l])
        ∧ exec (.watch tag w a) s
          = .next (((s.taken (.watch tag w a)).withWatches { s.watches with
                watches := s.watches.watches.set w y, alerts := alerts }).reply tag
              (.ok ([(.watch, .num w)] ++ configFields y
                ++ [(.state, .word .disabled), (.remaining, .num y.remaining)]))))
    ∧ (∀ y : Watch, x.configured = true →
        y = { x with remaining := x.countBefore, occurred := false, state := if x.chained then .waiting else .armed } →
        exec (.watchArm tag w) s
          = .next (((s.taken (.watchArm tag w)).withWatches { s.watches with
                watches := s.watches.watches.set w y }).reply tag
              (.ok [(.watch, .num w), (.state, .word (watchStateWord y.state)), (.remaining, .num y.remaining)])))
    ∧ (∃ alerts : Vector (Option (Fin 8)) 4,
        (∀ l : Fin 4, alerts[l] = if s.watches.alerts[l] = some w then none else s.watches.alerts[l])
        ∧ exec (.watchOff tag w) s
          = .next (((s.taken (.watchOff tag w)).withWatches { s.watches with
                watches := s.watches.watches.set w { x with state := .disabled }, alerts := alerts }).reply tag
              (.ok [(.watch, .num w), (.state, .word .disabled)])))
    ∧ ∃ fields : Fin 8 → List (Key × Val),
        (∀ (k : Fin 8) (y : Watch), y = s.watches.watches[k] →
          (.watch, .num k) ∈ fields k ∧ (.configured, flagVal y.configured) ∈ fields k
          ∧ (.state, .word (watchStateWord y.state)) ∈ fields k ∧ (.remaining, .num y.remaining) ∈ fields k
          ∧ (.occurred, flagVal y.occurred) ∈ fields k
          ∧ (y.configured = true → (∀ f ∈ configFields y, f ∈ fields k)
              ∧ ∀ sub, y.subject = some sub → (.value, .num (s.subjectValue sub)) ∈ fields k)
          ∧ fields k = [(.watch, .num k), (.configured, .num (if y.configured then 1 else 0)),
                (.state, .word (watchStateWord y.state)), (.remaining, .num y.remaining),
                (.occurred, .num (if y.occurred then 1 else 0))]
              ++ (if y.configured then
                  configFields y ++ (match y.subject with
                    | none => []
                    | some sub => [(.value, .num (s.subjectValue sub))])
                else []))
        ∧ exec (.watchRead tag (some w)) s
          = .next ((s.taken (.watchRead tag (some w))).reply tag (.ok (fields w ++ [(.alert, .nums
              ((List.finRange 4).map fun (l : Fin 4) => if s.watches.alerts[l] = none then 0 else 1))])))
        ∧ exec (.watchRead tag none) s
          = .next ((s.taken (.watchRead tag none)).reply tag (.okLines [(.alert, .nums
              ((List.finRange 4).map fun (l : Fin 4) => if s.watches.alerts[l] = none then 0 else 1))]
              ((List.finRange 8).map fun k => ⟨none, fields k⟩)))

/-- A watch's turn: only an ARMED watch is evaluated; a comparison that fails changes nothing; one that holds counts
remaining down, and at 0 the watch fires: it becomes HOLDOFF, FIRED or STAGED by its action, sets its occurrence flag
and posts its notice unless it stages, pulses, freezes, closes or stages, and if it is chained returns a STAGED
predecessor to ARMED with remaining reloaded; STAGE arms a WAITING successor. A hold-off's expiry rearms the watch,
WAITING if it is chained, with remaining as it stands; a pulse timer's expiry takes the line low with no owner (R110,
R114 to R119). That the sweep which an APPLY's bump brings acts within the watch's turn, before the later watches'
turns, is the model's reading (log entry 15), and so is that the expiry of a hold-off that does not run changes nothing
(log entry 4). -/
def Obligations.WatchesFireAndTheirTimersExpire : Prop :=
  (∀ (s : State) (w : Fin 8) (x : Watch), x = s.watches.watches[w] →
    (x.state ≠ .armed → s.watchTurn w = s)
    ∧ ∀ (sub : Subject) (act : WatchAction) (value : Nat) (hit : Bool), x.state = .armed → x.subject = some sub →
      x.action = some act →
      value = (match sub with
        | .occupancy z => s.census.zones[z].occupancy
        | .cls z => match s.census.zones[z].cls with | .clear => 0 | .busy => 1 | .crowded => 2
        | .gateFault g => if s.gates[g].fault then 1 else 0
        | .demand l => ((s.map.listings.get l).map Listing.demand).getD 0
        | .failures => s.watches.failures
        | .queueDepth => s.queue.entries.length) →
      hit = (match x.cmp with | .atLeast => decide (x.threshold ≤ value) | .below => decide (value < x.threshold)) →
      (hit = false → s.watchTurn w = s)
      ∧ (hit = true → 0 < x.remaining → s.watchTurn w = s.withWatches { s.watches with
          watches := s.watches.watches.set w { x with remaining := x.remaining - 1 } })
      ∧ (hit = true → x.remaining = 0 → ∃ (told v : State) (ws : Vector Watch 8) (closedNow : Bool),
          s.watchTurn w = v.withWatches { v.watches with watches := ws }
          ∧ closedNow = (match act with | .apply z => !s.census.zones[z].closed | _ => false)
          ∧ told = (s.withWatches { s.watches with watches := s.watches.watches.set w { x with occurred := true } }).post
              (.watch w act value s.census.tick closedNow)
          ∧ (match act with
            | .report => v = told
            | .pulse l => v = told.withWatches { told.watches with alerts := told.watches.alerts.set l (some w) }
            | .freeze => v = told.withCensus { told.census with frozen := true }
            | .apply z =>
              v = if s.census.zones[z].closed then told
                else (told.withCensus { told.census with
                  zones := told.census.zones.set z { told.census.zones[z] with closed := true } }).bump
            | .stage => v = s)
          ∧ ∀ k : Fin 8, ws[k] =
              if k = w then
                { x with occurred := x.occurred || decide (act ≠ .stage)
                         state := match act with
                           | .report | .pulse _ => .holdOff
                           | .freeze | .apply _ => .fired
                           | .stage => .staged }
              else if act = .stage ∧ k.val = w.val + 1 ∧ s.watches.watches[k].state = .waiting then
                { s.watches.watches[k] with state := .armed }
              else if x.chained = true ∧ k.val + 1 = w.val ∧ s.watches.watches[k].state = .staged then
                { s.watches.watches[k] with state := .armed, remaining := s.watches.watches[k].countBefore }
              else s.watches.watches[k]))
  ∧ ∀ s : State,
    (∀ (w : Fin 8) (x : Watch), x = s.watches.watches[w] →
      (x.state = .holdOff → exec (.holdOffExpiry w) s = .next (s.withWatches { s.watches with
        watches := s.watches.watches.set w
          { x with occurred := false, state := if x.chained then .waiting else .armed } }))
      ∧ (x.state ≠ .holdOff → exec (.holdOffExpiry w) s = .next s))
    ∧ ∀ l : Fin 4, ∃ t : State, exec (.pulseTimerExpiry l) s = .next t ∧ t.alertHigh l = false
        ∧ (∀ k : Fin 4, k ≠ l → t.watches.alerts[k] = s.watches.alerts[k])
        ∧ t = s.withWatches { s.watches with alerts := t.watches.alerts }

/-! ## Sessions -/

/-- The session requests, each taken by a session neither DORMANT nor in ALERT: NAV, BACK, BACK-RESTORE and HOME first
withdraw a pending route; NAV pushes its page at a depth of at most 8, BACK and BACK-RESTORE pop, the latter restoring
the settings recorded with the page, HOME clears the stack, PREFS sets what it is given, TAP changes nothing; every one
restarts the idle timer; no other session changes but by the arbiter's act on a unit freed. A request that fails a check
is refused with the answer of the first of R127's seven that fails, and changes nothing. The reply gives SCREEN, STATE,
DEPTH, TOP and TOPVAL, then where they apply TRIMMED, WITHDRAWN, LANG and PROFILE, and PAGE (R49, R125, R127 to R133).
BACK-RESTORE restores what the popped entry recorded, by R130; where R137 says otherwise, that is the model's reading
(log entry 35). -/
def Obligations.SessionRequestsMoveTheSession : Prop :=
  (∀ (s : State) (tag : Nat) (n : Fin 48) (c : Screen) (i : Instr) (x : Session) (extras : ReplyExtras)
    (withdraws : Bool),
    s.screens[n] = some c → c.session.state ≠ .dormant → c.session.state ≠ .alert →
    ((∃ a p, i = .nav tag n a ∧ navPage? a = some p ∧ (∀ k ∈ a.category, k ≤ 63)
        ∧ (∀ k ∈ a.listing, k ≤ 1023 ∧ (s.map.listings.get k).isSome = true) ∧ (∀ t ∈ a.text, t.length ≤ 8)
        ∧ (∀ l ∈ a.level, -4 ≤ l ∧ l ≤ 11) ∧ withdraws = true
        ∧ extras = { trimmed := some (decide (8 ≤ c.session.stack.length)) }
        ∧ x = { c.session with state := .active, shown := none
                               stack := ⟨p, c.session.language, c.session.profile⟩ :: c.session.stack.take 7 })
      ∨ (i = .back tag n ∧ withdraws = true ∧ extras = {}
        ∧ x = { c.session with state := x.state, stack := c.session.stack.drop 1, shown := x.shown })
      ∨ (i = .backRestore tag n ∧ withdraws = true ∧ extras = { prefs := true }
        ∧ x = { c.session with
            state := x.state, stack := c.session.stack.drop 1, shown := x.shown
            language := ((c.session.stack.head?).map PageEntry.language).getD c.session.language
            profile := ((c.session.stack.head?).map PageEntry.profile).getD c.session.profile })
      ∨ (i = .home tag n ∧ withdraws = true ∧ extras = {}
        ∧ x = { c.session with state := .active, stack := [], shown := none })
      ∨ (∃ l p, i = .prefs tag n l p ∧ (∀ k ∈ l, k ≤ 7) ∧ (l.isSome = true ∨ p.isSome = true) ∧ withdraws = false
        ∧ extras = { prefs := true }
        ∧ x = { c.session with language := l.getD c.session.language, profile := p.getD c.session.profile })
      ∨ (i = .tap tag n ∧ withdraws = false ∧ extras = {} ∧ x = c.session)) →
    ((i = .back tag n ∨ i = .backRestore tag n) →
      (c.session.stack = [] → c.session.state = .idle → x.state = .idle ∧ x.shown = c.session.shown)
      ∧ (c.session.stack = [] → c.session.state ≠ .idle → x.state = .active ∧ x.shown = none)
      ∧ ∀ e rest, c.session.stack = e :: rest →
        (∀ q more id, rest = q :: more → q.page = .route id → x.state = .routeShown ∧ x.shown = some id)
        ∧ ((∀ q more id, rest = q :: more → q.page ≠ .route id) → x.state = .active ∧ x.shown = none)) →
    ∃ v t : State,
      v = (if withdraws = true ∧ c.session.state = .routePending then
          ((s.taken i).withScreens (s.screens.set n (some { c with session := { c.session with pending := none } }))
            ).endScreenEntry n .withdrawn
        else s.taken i)
      ∧ t.screens = v.screens.set n (some { c with session :=
          { x with pending := if withdraws = true ∧ c.session.state = .routePending then none else c.session.pending
                   idle := some ⟨c.decl.idleTimeout, 0⟩ } })
      ∧ t = v.withScreens t.screens
      ∧ exec i s = .next (t.reply tag (.ok (sessionFields t n c.decl
          { x with pending := if withdraws = true ∧ c.session.state = .routePending then none else c.session.pending
                   idle := some ⟨c.decl.idleTimeout, 0⟩ }
          (if withdraws = true ∧ c.session.state = .routePending then c.session.pending else none) extras))))
  ∧ (∀ (s : State) (n : Fin 48) (d : ScreenDecl) (ses : Session) (withdrawn : Option Nat) (x : ReplyExtras),
      sessionFields s n d ses withdrawn x =
        [(.screen, .num n), (.state, .word (sessionStateWord ses.state)), (.depth, .num ses.stack.length)]
        ++ (match ses.stack with
          | [] => [(.top, .word .home)]
          | e :: _ => match e.page with
            | .category k => [(.top, .word .category), (.topval, .num k)]
            | .listing k => [(.top, .word .listing), (.topval, .num k)]
            | .search t => [(.top, .word .search), (.topval, .text t)]
            | .levelMap l => [(.top, .word .levelMap), (.topval, .int l)]
            | .route id => [(.top, .word .route), (.topval, .num id)])
        ++ (match x.trimmed with | none => [] | some b => [(.trimmed, .num (if b then 1 else 0))])
        ++ (match withdrawn with | none => [] | some id => [(.withdrawn, .num id)])
        ++ (if x.prefs then [(.lang, .num ses.language), (.profile, .word (profileWord ses.profile))] else [])
        ++ (if ses.state = .idle then
            [(.page, match d.cadence with | none => .word .absent | some k => .num s.clock.timers[k].page)]
          else []))
  ∧ (∀ (a : NavArgs) (p : Page), navPage? a = some p ↔
      (∃ k, a.page = .category ∧ a.category = some k ∧ a.listing = none ∧ a.text = none ∧ a.level = none
        ∧ p = .category k)
      ∨ (∃ k, a.page = .listing ∧ a.category = none ∧ a.listing = some k ∧ a.text = none ∧ a.level = none
        ∧ p = .listing k)
      ∨ (∃ t, a.page = .search ∧ a.category = none ∧ a.listing = none ∧ a.text = some t ∧ a.level = none
        ∧ p = .search t)
      ∨ ∃ l, a.page = .levelMap ∧ a.category = none ∧ a.listing = none ∧ a.text = none ∧ a.level = some l
        ∧ p = .levelMap l)
  ∧ ∀ (s : State) (tag screen : Nat) (i : Instr) (ranges agree listed : Prop),
      ((∃ a, i = .nav tag screen a
          ∧ ranges = ((∀ k ∈ a.category, k ≤ 63) ∧ (∀ k ∈ a.listing, k ≤ 1023) ∧ (∀ t ∈ a.text, t.length ≤ 8)
              ∧ ∀ l ∈ a.level, -4 ≤ l ∧ l ≤ 11)
          ∧ agree = (∃ p, navPage? a = some p) ∧ listed = (∀ k ∈ a.listing, (s.map.listings.get k).isSome = true))
        ∨ ((i = .back tag screen ∨ i = .backRestore tag screen ∨ i = .home tag screen ∨ i = .tap tag screen)
          ∧ ranges = True ∧ agree = True ∧ listed = True)
        ∨ ∃ l q, i = .prefs tag screen l q ∧ ranges = (∀ k ∈ l, k ≤ 7) ∧ agree = (l.isSome = true ∨ q.isSome = true)
          ∧ listed = True) →
      RefusedByFirst i tag s
        [(screen ≤ 47, .no .outOfRange),
         (∃ n : Fin 48, n.val = screen ∧ s.screens[n].isSome = true, .no .notFound),
         (∀ (n : Fin 48) (c : Screen), n.val = screen → s.screens[n] = some c → c.session.state ≠ .dormant,
          .no .wrongMode),
         (∀ (n : Fin 48) (c : Screen), n.val = screen → s.screens[n] = some c → c.session.state ≠ .alert,
          .no .evacActive),
         (ranges, .no .outOfRange), (agree, .no .conflict), (listed, .no .notFound)]

/-- A running idle timer's expiry withdraws a pending route and makes the session IDLE with an empty stack and its
defaults, the timer stopped; a stopped timer does not expire, nor that of a screen not declared (such an expiry changes
nothing: log entry 4). SCREEN-GET gives the whole context in every state, with a line of KIND, VALUE, LANG and PROFILE
for each stack entry from the top down, and changes nothing of the part's; a screen not declared is refused NOT_FOUND,
one above 47 OUT_OF_RANGE; the time left of a running timer is between 1 and the timeout, and within a second of what
the timebase has counted (which of two readings it is, is a free value: log entry 10). PAGE only while the session is
IDLE is the model's reading (log entry 24) (R49, R134, R140). -/
def Obligations.IdleExpiryAndScreenGet : Prop :=
  (∀ e : PageEntry, entryLine e = ⟨none,
    (match e.page with
      | .category k => [(.kind, .word .category), (.value, .num k)]
      | .listing k => [(.kind, .word .listing), (.value, .num k)]
      | .search t => [(.kind, .word .search), (.value, .text t)]
      | .levelMap l => [(.kind, .word .levelMap), (.value, .int l)]
      | .route id => [(.kind, .word .route), (.value, .num id)])
    ++ [(.lang, .num e.language),
        (.profile, .word (match e.profile with
          | .standard => .standard | .stepFree => .stepFree | .quick => .quick | .evacuation => .evacuation))]⟩)
  ∧ ∀ (s : State) (tag : Nat) (n : Fin 48),
    (s.screens[n] = none → exec (.idleTimerExpiry n) s = .next s
      ∧ exec (.screenGet tag n) s = .next ((s.taken (.screenGet tag n)).reply tag (.no .notFound)))
    ∧ (∀ k, 47 < k → exec (.screenGet tag k) s = .next ((s.taken (.screenGet tag k)).reply tag (.no .outOfRange)))
    ∧ (∀ c, s.screens[n] = some c → c.session.idle = none → exec (.idleTimerExpiry n) s = .next s)
    ∧ (∀ c, s.screens[n] = some c → c.session.idle.isSome = true →
      ∃ v t : State, exec (.idleTimerExpiry n) s = .next t
        ∧ v = (if c.session.state = .routePending then
            (s.withScreens (s.screens.set n (some { c with session := { c.session with pending := none } }))
              ).endScreenEntry n .withdrawn
          else s)
        ∧ t.screens = v.screens.set n (some { c with session := { c.session with
            state := .idle, stack := [], shown := none, language := c.decl.language, profile := .standard, idle := none
            pending := if c.session.state = .routePending then none else c.session.pending } })
        ∧ t = v.withScreens t.screens)
    ∧ ∀ c, s.screens[n] = some c → ∃ (left : Val) (fields : List (Key × Val)),
        exec (.screenGet tag n) s
          = .next (({ s.taken (.screenGet tag n) with
                free := if c.session.idle.isSome then s.free + 1 else s.free } : State).reply tag
              (.okLines fields (c.session.stack.map entryLine)))
        ∧ (c.session.idle = none → left = .word .absent)
        ∧ (∀ timer, c.session.idle = some timer → ∃ k : Nat, left = .num k ∧ 1 ≤ k
            ∧ timer.timeout - timer.seconds ≤ k ∧ k ≤ max 1 (timer.timeout - timer.seconds + 1)
            ∧ (timer.seconds = 0 → 1 ≤ timer.timeout → k = timer.timeout))
        ∧ fields = [(.screen, .num n), (.state, .word (sessionStateWord c.session.state)),
              (.lang, .num c.session.language), (.profile, .word (profileWord c.session.profile)),
              (.depth, .num c.session.stack.length), (.pending, numOrNone c.session.pending),
              (.shown, numOrNone c.session.shown), (.evac, numOrNone c.session.evac), (.idleLeft, left)]
            ++ (if c.session.state = .idle then
                [(Key.page, match c.decl.cadence with
                  | none => Val.word .absent
                  | some k => .num s.clock.timers[k].page)]
              else [])

/-! ## Evacuation -/

/-- EVAC and a rise of EVAC_IN. In SERVICE and INACTIVE they bring the entry event: ACTIVE, every entry ended
EVAC_CANCELLED, the queue's head to tail, then unit A's, then unit B's; every session ALERT with its language and
profile kept; the generation moved on by one; every declared screen due; the EVAC notice; EVAC_ACK high; and the sweep
then acts. In LOAD and INACTIVE they make it PENDING with its notice; in ACTIVE or PENDING they change nothing. A level
of the line that has not matured changes the line alone (R48, R139, R142 to R144, R146). The model's choices: DUE in the
reply to EVAC is counted after the sweep has acted (log entry 16), and the entry leaves no expiry of a cadence timer due
(log entry 12), and a rise with no change maturing changes nothing (log entry 4). -/
def Obligations.EvacuationIsEntered : Prop :=
  ∀ s : State, ModesAgree s → ClassesAgree s →
    (∀ high : Bool, exec (.evacInLineChange high) s = .next (s.withEvac { s.evac with line := high }))
    ∧ ((s.evac.line = false ∨ s.evac.debounced = true) → exec .evacInRise s = .next s)
    ∧ ∀ (i : Instr) (b : State) (cause : EvacCause),
      (i = .evacInRise ∧ s.evac.line = true ∧ s.evac.debounced = false ∧ cause = .line
          ∧ b = s.withEvac { s.evac with debounced := true }
        ∨ ∃ tag, i = .evac tag ∧ cause = .host ∧ b = s.taken i) →
      ∃ r : State,
      (i = .evacInRise → exec i s = .next r)
      ∧ (∀ tag, i = .evac tag → exec i s = .next (r.reply tag (.ok
            [(.state, .word (evacStateWord r.evac.state)), (.line, flagVal r.evac.debounced),
             (.due, .num (r.evac.due.toList.countP id)), (.gen, .num r.map.generation)])))
      ∧ (s.evac.state ≠ .inactive → r = b)
      ∧ (s.evac.state = .inactive → s.map.mode = .load →
          r = (b.withEvac { b.evac with state := .pending }).withPort
            (b.port.post (.evac .pending cause b.evac.debounced s.map.generation)))
      ∧ (s.evac.state = .inactive → s.map.mode = .service → ∃ u : State, r = u.settle
          ∧ u.map = { s.map with generation := (s.map.generation + 1) % 4294967296 }
          ∧ u.queue = { s.queue with entries := [] } ∧ u.units = { a := none, b := none }
          ∧ u.evac.state = .active ∧ u.evac.ack = true ∧ u.evac.line = s.evac.line
          ∧ u.evac.debounced = b.evac.debounced ∧ (∀ n : Fin 48, u.evac.due[n] = (s.screens[n]).isSome)
          ∧ (∀ n : Fin 48, u.screens[n] = (s.screens[n]).map fun c => { c with session :=
              { state := .alert, language := c.session.language, profile := c.session.profile, stack := []
                pending := none, shown := none, evac := none, idle := none } })
          ∧ (∀ k : Fin 8, u.clock.timers[k] = { s.clock.timers[k] with due := false })
          ∧ u.port = ((s.queue.entries ++ s.units.entries).foldl
              (fun p e => p.post (.routeResult (emptyResult s e .evacCancelled []))) b.port).post
              (.evac .active cause b.evac.debounced u.map.generation)
          ∧ u = (((((b.withMap u.map).withQueue u.queue).withUnits u.units).withEvac u.evac).withScreens u.screens
              |>.withClock { s.clock with timers := u.clock.timers }).withPort u.port)

/-- EVAC-END with the line clear, in ACTIVE, brings the exit event: INACTIVE, every entry ended EVAC_ENDED, no screen
due, every session IDLE with its defaults, the generation moved on by one, the EVAC notice, EVAC_ACK low; in PENDING it
makes evacuation INACTIVE; in INACTIVE it is refused, and with the line asserted too. A matured fall posts LINE_LOW
outside INACTIVE (R48, R139, R142, R143, R145, R150, R152). That a fall with no change maturing changes nothing is the
model's reading (log entry 4). -/
def Obligations.EvacuationIsLeft : Prop :=
  ∀ (s : State) (tag : Nat), ModesAgree s → ClassesAgree s →
    ((s.evac.line = true ∨ s.evac.debounced = false) → exec .evacInFall s = .next s)
    ∧ (s.evac.line = false → s.evac.debounced = true → exec .evacInFall s
        = .next (if s.evac.state = .inactive then s.withEvac { s.evac with debounced := false }
          else (s.withEvac { s.evac with debounced := false }).withPort
            (s.port.post (.evac s.evac.state .lineLow false s.map.generation))))
    ∧ (s.evac.state = .inactive →
        exec (.evacEnd tag) s = .next ((s.taken (.evacEnd tag)).reply tag (.no .notActive)))
    ∧ (s.evac.state ≠ .inactive → s.evac.debounced = true →
        exec (.evacEnd tag) s = .next ((s.taken (.evacEnd tag)).reply tag (.no .evacLine)))
    ∧ (s.evac.debounced = false → s.evac.state ≠ .inactive → ∃ t u : State,
        exec (.evacEnd tag) s = .next (t.reply tag
          (.ok [(.state, .word .inactive), (.line, .num 0), (.gen, .num t.map.generation)]))
        ∧ u.evac.state = .inactive ∧ u.evac.ack = false ∧ u.evac.line = s.evac.line ∧ u.evac.debounced = false
        ∧ (∀ n : Fin 48, u.evac.due[n] = false)
        ∧ (s.evac.state = .pending → t = u ∧ u = ((s.taken (.evacEnd tag)).withEvac u.evac).withPort
            ((s.taken (.evacEnd tag)).port.post (.evac .inactive .ended false s.map.generation)))
        ∧ (s.evac.state = .active → t = u.settle
            ∧ u.map = { s.map with generation := (s.map.generation + 1) % 4294967296 }
            ∧ u.queue = { s.queue with entries := [] } ∧ u.units = { a := none, b := none }
            ∧ (∀ n : Fin 48, u.screens[n] = (s.screens[n]).map fun c =>
                if c.session.state = .alert then { c with session :=
                  { state := .idle, language := c.decl.language, profile := .standard, stack := [], pending := none
                    shown := none, evac := none, idle := none } }
                else c)
            ∧ u.port = ((s.queue.entries ++ s.units.entries).foldl
                (fun p e => p.post (.routeResult (emptyResult s e .evacEnded []))) (s.taken (.evacEnd tag)).port).post
                (.evac .inactive .ended false u.map.generation)
            ∧ u = (((((s.taken (.evacEnd tag)).withMap u.map).withQueue u.queue).withUnits u.units).withEvac u.evac
                |>.withScreens u.screens).withPort u.port))

/-! ## The clock block -/

/-- A minute boundary sets the schedule state of every listing with a week by the two tests of R155; where it changes an
effective state it bumps once and posts HOURS with the count. CLOCK makes the clock SET at once with a boundary; a
second of the timebase advances a SET clock, with a boundary where the minute moves, then counts the timers that run and
the idle timers; CLOCK-READ gives the clock (R133, R153 to R156, R157, R158). The model's choices: a second that
completes a timer's period makes its expiry due and does not take it, and the second stated here is one that finds no
expiry due (log entry 12); the clock is taken before the counts (log entry 30); the sweep that a boundary's bump brings
acts before HOURS is posted (log entry 15); and an idle timer counts timebase seconds up to its timeout, its expiry
being a command of its own (log entry 17). -/
def Obligations.ClockSetsAndAdvances : Prop :=
  (∀ (week : Vector DayEntry 7) (d : Fin 7) (t : Nat), openAt week d t = true ↔
      (∃ o c, week[d] = .window o c ∧ (o < c ∧ o ≤ t ∧ t < c ∨ c < o ∧ o ≤ t))
      ∨ ∃ o c, week[d + 6] = .window o c ∧ c < o ∧ t < c)
  ∧ (∀ (s : State) (now : DayTime) (byClock : Bool), ∃ (ls : Table Listing) (count : Nat) (t : State),
      ls = s.map.listings.map (fun q => (q.1, { q.2 with hours := q.2.hours.map fun h =>
        { h with state := if openAt h.week now.weekday now.minute then .opened else .closed } }))
      ∧ count = s.map.listings.countP (fun q => q.2.effective s.clock.clock.isSome
          != ({ q.2 with hours := q.2.hours.map fun h =>
            { h with state := if openAt h.week now.weekday now.minute then .opened else .closed } } : Listing).effective true)
      ∧ t = (s.withClock { s.clock with clock := some now }).withMap { s.map with listings := ls }
      ∧ s.minuteBoundary now byClock = (if count = 0 then t
          else t.bump.post (.hours count now.weekday now.minute byClock t.bump.map.generation))
      ∧ ∀ (tag : Nat) (second : Option Nat), byClock = true → now.minute ≤ 1439 → (∀ x ∈ second, x ≤ 59) →
        now.second = second.getD 0 → ∃ u : State,
          u = (s.taken (.clock tag now.weekday now.minute second)).minuteBoundary now true
          ∧ exec (.clock tag now.weekday now.minute second) s = .next (u.reply tag (.ok
              [(.weekday, .num now.weekday), (.minute, .num now.minute), (.second, .num now.second),
               (.changed, .num count), (.gen, .num u.map.generation)])))
  ∧ ∀ s : State,
    (∀ tag, exec (.clockRead tag) s = .next ((s.taken (.clockRead tag)).reply tag (.ok (match s.clock.clock with
      | none => [(.clock, .word .isUnset)]
      | some c => [(.clock, .word .isSet), (.weekday, .num c.weekday), (.minute, .num c.minute),
                   (.second, .num c.second)]))))
    ∧ ((∀ k : Fin 8, s.clock.timers[k].due = false) → ∃ v t : State, exec .timebaseSecond s = .next t
        ∧ (s.clock.clock = none → v = s)
        ∧ (∀ c, s.clock.clock = some c → c.second < 59 →
            v = s.withClock { s.clock with clock := some { c with second := c.second + 1 } })
        ∧ (∀ c, s.clock.clock = some c → 59 ≤ c.second → c.minute < 1439 →
            v = s.minuteBoundary { c with second := 0, minute := c.minute + 1 } false)
        ∧ (∀ c, s.clock.clock = some c → 59 ≤ c.second → 1439 ≤ c.minute →
            v = s.minuteBoundary { weekday := c.weekday + 1, minute := 0, second := 0 } false)
        ∧ (∀ (k : Fin 8) (x : CadenceTimer), x = s.clock.timers[k] → t.clock.timers[k] =
            if s.map.mode = .service ∧ s.evac.state ≠ .active ∧ x.state = .run then
              if x.count + 1 < x.period then { x with count := x.count + 1 } else { x with due := true }
            else x)
        ∧ (∀ n : Fin 48, t.screens[n] = (v.screens[n]).map fun c => { c with session := { c.session with
            idle := c.session.idle.map fun i => { i with seconds := min i.timeout (i.seconds + 1) } } })
        ∧ t = (v.withClock { v.clock with timers := t.clock.timers }).withScreens t.screens)

/-- The cadence requests: CADENCE stores the fields given, PERIOD held to 5 to 600 s, and starts the loop again from
page 0; a second MASTER is refused CONFLICT; CADENCE-RUN sets the run setting, and in SERVICE the state; CADENCE-HALT
sets both to HALT; CADENCE with TIMER alone reads (R157, R161, R162). The model's choices: RESTART=0 is the field left
out (log entry 7); a configuration, a RESTART=1 and a halt leave no expiry due (log entry 12); and the names and the
order of the fields of CADENCE's reply (log entry 20). -/
def Obligations.CadenceConfiguredRunAndHalted : Prop :=
  (∀ (i : Nat) (t : CadenceTimer), timerFields i t =
    [(.timer, .num i), (.period, .num t.period), (.pages, .num t.pages),
     (.mode, .word (match t.mode with | .repeating => .repeating | .once => .once)),
     (.role, .word (match t.role with | .plain => .plain | .master => .master | .follower => .follower)),
     (.run, .word (match t.setting with | .run => .run | .halt => .halt)),
     (.state, .word (match t.state with | .run => .run | .halt => .halt)), (.page, .num t.page), (.count, .num t.count)])
  ∧ ∀ (s : State) (tag : Nat) (k : Fin 8) (x : CadenceTimer), x = s.clock.timers[k] →
    (∀ (a : CadenceArgs) (y : CadenceTimer), (∀ n ∈ a.pages, 1 ≤ n ∧ n ≤ 16) →
      y = { x with period := (a.period.map fun p => max 5 (min 600 p)).getD x.period, pages := a.pages.getD x.pages
                   mode := a.mode.getD x.mode, role := a.role.getD x.role, count := 0, page := 0, due := false } →
      ((a.role = some .master → ∀ j : Fin 8, j ≠ k → s.clock.timers[j].role ≠ .master) →
        exec (.cadence tag k a) s
          = .next (((s.taken (.cadence tag k a)).withClock { s.clock with timers := s.clock.timers.set k y }).reply tag
              (.ok (timerFields k y
                ++ [(.clamped, .num (if ∃ p ∈ a.period, p < 5 ∨ 600 < p then 1 else 0))]))))
      ∧ (∀ j : Fin 8, a.role = some .master → j ≠ k → s.clock.timers[j].role = .master →
        exec (.cadence tag k a) s = .next ((s.taken (.cadence tag k a)).reply tag (.no .conflict))))
    ∧ exec (.cadenceRead tag k) s = .next ((s.taken (.cadenceRead tag k)).reply tag (.ok (timerFields k x)))
    ∧ (∀ (restart : Option Nat) (y : CadenceTimer), (∀ n ∈ restart, n ≤ 1) →
        y = { x with setting := .run, state := if s.map.mode = .service then .run else x.state
                     count := if restart = some 1 then 0 else x.count, page := if restart = some 1 then 0 else x.page
                     due := if restart = some 1 then false else x.due } →
        exec (.cadenceRun tag k restart) s
          = .next (((s.taken (.cadenceRun tag k restart)).withClock { s.clock with
                timers := s.clock.timers.set k y }).reply tag
              (.ok [(.timer, .num k), (.run, .word .run), (.state, .word (runWord y.state)), (.page, .num y.page),
                    (.count, .num y.count)])))
    ∧ exec (.cadenceHalt tag k) s
        = .next (((s.taken (.cadenceHalt tag k)).withClock { s.clock with
              timers := s.clock.timers.set k { x with setting := .halt, state := .halt, due := false } }).reply tag
            (.ok [(.timer, .num k), (.run, .word .halt), (.state, .word .halt), (.page, .num x.page),
                  (.count, .num x.count)]))

/-- An expiry that is due sets the count to 0 and steps the page, wrapping in REPEAT and halting a ONCE timer on its
last page; it posts CADENCE, and a MASTER then sets every running FOLLOWER to its own page modulo the follower's pages,
each with a notice, in index order. Nothing else changes; an expiry that is not due does nothing (R158, R159). That an
expiry is due from the second that completes the period until it is taken is the model's choice (log entry 12), and that
one not due changes nothing is its reading (log entry 4). -/
def Obligations.PeriodExpiryStepsThePage : Prop :=
  ∀ (s : State) (k : Fin 8) (x y : CadenceTimer), x = s.clock.timers[k] →
    (x.due = false → exec (.cadencePeriodExpiry k) s = .next s)
    ∧ (x.due = true →
      y = (if x.mode = .once ∧ x.pages ≤ x.page + 1 then
          { x with count := 0, due := false, setting := .halt, state := .halt }
        else { x with count := 0, due := false, page := (x.page + 1) % x.pages }) →
      ∃ (followers : List (Fin 8)) (t : State), exec (.cadencePeriodExpiry k) s = .next t
        ∧ followers = (List.finRange 8).filter (fun j =>
            decide (x.role = .master) && (s.clock.timers[j].role == .follower && s.clock.timers[j].state == .run))
        ∧ (∀ j : Fin 8, t.clock.timers[j] =
            if j = k then y
            else if j ∈ followers then
              { s.clock.timers[j] with count := 0, due := false, page := y.page % s.clock.timers[j].pages }
            else s.clock.timers[j])
        ∧ t.port = followers.foldl
            (fun p (j : Fin 8) => p.post (.cadence j (y.page % s.clock.timers[j].pages) true false))
            (s.port.post (.cadence k y.page false (decide (x.mode = .once ∧ x.pages ≤ x.page + 1))))
        ∧ t = (s.withClock { s.clock with timers := t.clock.timers }).withPort t.port)

/-! ## The host port -/

/-- A line is assembled character by character and judged at its LF: an empty line is ignored, a line with a damaged or
unprintable character or of more than 1,024 is discarded with a frame error, and any other reaches the handler, or waits
behind the line it holds, or is answered BUSY when 4 wait. The assembly timer's expiry discards the line and its tail. A
line that is not well formed is a frame error without a tag, and otherwise answered UNKNOWN_VERB or BAD_FIELD (R163 to
R165). That a damaged LF is a character of the line, and that a damaged CR before the LF is kept, is the model's reading
(log entry 26), and so is that the expiry of an assembly timer that does not run changes nothing (log entry 4). -/
def Obligations.LinesAreAssembledAndTaken : Prop :=
  (∀ (s : State) (code : Code) (damaged : Bool), ¬ (code = 10 ∧ damaged = false) →
      exec (.characterReceived code damaged) s = .next (s.withPort { s.port with
        rx := if s.port.dropping then s.port.rx else s.port.rx ++ [⟨code, damaged⟩] }))
  ∧ (∀ s : State,
      (s.port.rx ≠ [] → s.port.dropping = false → exec .assemblyTimerExpiry s = .next (s.withPort { s.port with
        rx := [], dropping := true, frames := min 65535 (s.port.frames + 1) }))
      ∧ ((s.port.rx = [] ∨ s.port.dropping = true) → exec .assemblyTimerExpiry s = .next s))
  ∧ (∀ (s : State) (c : Instr), PortSound s → (c = .lineComplete ∨ c = .characterReceived 10 false) →
      (s.port.dropping = true → exec c s = .next (s.withPort { s.port with rx := [], dropping := false }))
      ∧ ∀ line : List RxChar, s.port.dropping = false →
        (s.port.rx = line ++ [⟨13, false⟩] ∨ s.port.rx = line ∧ line.getLast? ≠ some ⟨13, false⟩) →
        ∃ p : Port, exec c s = .next (s.withPort p)
          ∧ (line = [] → p = { s.port with rx := [] })
          ∧ ((1024 < line.length ∨ ∃ x ∈ line, x.damaged = true ∨ x.code.toNat < 32 ∨ 126 < x.code.toNat) →
              p = { s.port with rx := [], frames := min 65535 (s.port.frames + 1) })
          ∧ (line ≠ [] → line.length ≤ 1024 →
              (∀ x ∈ line, x.damaged = false ∧ 32 ≤ x.code.toNat ∧ x.code.toNat ≤ 126) →
              (s.port.hand = none → p = { s.port with rx := [], hand := some (line.map RxChar.code) })
              ∧ (s.port.hand.isSome = true → s.port.input.length < 4 →
                  p = { s.port with rx := [], input := s.port.input ++ [line.map RxChar.code] })
              ∧ (s.port.hand.isSome = true → s.port.input.length = 4 →
                  (∀ tag, lineTag? (line.map RxChar.code) = some tag →
                    p = { s.port with rx := [], tx := s.port.tx ++ [⟨tag, .no .busy⟩] })
                  ∧ (lineTag? (line.map RxChar.code) = none →
                    p = { s.port with rx := [], frames := min 65535 (s.port.frames + 1) }))))
  ∧ ∀ (s : State) (line : Text),
      (readLine line = .noTag → exec (.unknownVerb line) s = .next ((s.taken (.unknownVerb line)).withPort
        { (s.taken (.unknownVerb line)).port with
          frames := min 65535 ((s.taken (.unknownVerb line)).port.frames + 1) }))
      ∧ (∀ tag, readLine line = .unknownVerb tag →
          exec (.unknownVerb line) s = .next ((s.taken (.unknownVerb line)).reply tag (.no .unknownVerb)))
      ∧ (∀ tag, readLine line = .badField tag →
          exec (.unknownVerb line) s = .next ((s.taken (.unknownVerb line)).reply tag (.no .badField)))

/-- A request in the handler's hands leaves them as it is answered, and the next waiting line takes its place; the reply
joins the end of what the transmitter has to send, and leaves it wholly sent. FETCH gives and removes up to 8 notices,
oldest first, with MORE and NOTICES_LOST, clears the flag, lowers the outstanding count by the ROUTE_RESULTs among them,
and the sweep then acts; MASK sets what it is given, ROUTE_RESULT=0 refused; STATUS reports, and with CLEAR=1 sets
FAILURES to 0. A notice whose kind is masked is not queued, a ROUTE_RESULT never masked; one that is queued joins the
tail, and with 32 waiting the oldest that is no ROUTE_RESULT leaves first, NOTICES_LOST is set and the order of the
others is kept. Each notice's line has its kind and the fields of its owning rule. Every request is answered once under
its tag, and one that is refused changes nothing but the line answered and the replies to send (R38, R66, R72, R84, R86,
R95, R123, R148, R152, R156, R158, R164 to R171). That the next line is taken in the same step is the model's reading
(log entry 6), and a transmitter that holds whole replies its choice (log entry 28). -/
def Obligations.RequestsAreAnswered : Prop :=
  (∀ (s : State) (c : Instr) (line : Text), s.port.hand = some line → readLine line = .request c →
      c.tag?.isSome = true →
      (s.port.input = [] → s.taken c = s.withPort { s.port with hand := none })
      ∧ ∀ (next : Text) (rest : List Text), s.port.input = next :: rest →
        s.taken c = s.withPort { s.port with hand := some next, input := rest })
  ∧ (∀ (s : State) (r : Reply) (rest : List Reply), s.port.tx = r :: rest →
      exec .replyTransmitted s = .next (s.withPort { s.port with tx := rest }))
  ∧ (∀ (s : State) (tag : Nat), ∃ t : State,
      exec (.fetch tag) s = .next (t.settle.reply tag (.okLines
        [(.more, .num (if 8 < s.port.notices.length then 1 else 0)), (.lost, .num (if s.port.lost then 1 else 0))]
        ((s.port.notices.take 8).map noticeLine)))
      ∧ t = ((s.taken (.fetch tag)).withPort { (s.taken (.fetch tag)).port with
            notices := s.port.notices.drop 8, lost := false }).withQueue
          { s.queue with outstanding := s.queue.outstanding - ((s.port.notices.take 8).filter Notice.isResult).length })
  ∧ (∀ (s : State) (tag : Nat) (a : MaskArgs) (m : NoticeMask),
      (∀ v, (v ∈ a.routeResult ∨ v ∈ a.zoneClass ∨ v ∈ a.gateFault ∨ v ∈ a.gateClear ∨ v ∈ a.watch ∨ v ∈ a.hours
        ∨ v ∈ a.evac ∨ v ∈ a.cadence) → v ≤ 1) →
      m = { routeResult := (a.routeResult.map fun v => v == 1).getD s.port.mask.routeResult
            zoneClass := (a.zoneClass.map fun v => v == 1).getD s.port.mask.zoneClass
            gateFault := (a.gateFault.map fun v => v == 1).getD s.port.mask.gateFault
            gateClear := (a.gateClear.map fun v => v == 1).getD s.port.mask.gateClear
            watch := (a.watch.map fun v => v == 1).getD s.port.mask.watch
            hours := (a.hours.map fun v => v == 1).getD s.port.mask.hours
            evac := (a.evac.map fun v => v == 1).getD s.port.mask.evac
            cadence := (a.cadence.map fun v => v == 1).getD s.port.mask.cadence } →
      (a.routeResult ≠ some 0 → exec (.mask tag a) s
        = .next (((s.taken (.mask tag a)).withPort { (s.taken (.mask tag a)).port with mask := m }).reply tag
            (.ok (maskFields m))))
      ∧ (a.routeResult = some 0 → exec (.mask tag a) s
        = .next ((s.taken (.mask tag a)).reply tag (.no .conflict))))
  ∧ (∀ (s : State) (tag : Nat) (clear : Option Nat), (∀ v ∈ clear, v ≤ 1) →
      exec (.status tag clear) s
        = .next ((if clear = some 1 then
              (s.taken (.status tag clear)).withWatches { s.watches with failures := 0 }
            else s.taken (.status tag clear)).reply tag (.ok
          [(.family, .word .uviaro), (.part, .word .wx320), (.rev, .word .b), (.mode, .word (engineModeWord s.map.mode)),
           (.evac, .word (evacStateWord s.evac.state)), (.gen, .num s.map.generation),
           (.queued, .num s.queue.entries.length), (.busy, .num (s.units.a.toList.length + s.units.b.toList.length)),
           (.outstanding, .num s.queue.outstanding), (.notices, .num s.port.notices.length),
           (.lost, .num (if s.port.lost then 1 else 0)), (.frames, .num s.port.frames), (.tick, .num s.census.tick),
           (.clock, .word (if s.clock.clock = none then .isUnset else .isSet)),
           (.failures, .num s.watches.failures)])))
  ∧ (∀ (p : Port) (n : Notice) (queued : Bool),
      queued = (match n with
        | .routeResult _ => true
        | .zoneClass _ _ _ _ => p.mask.zoneClass
        | .gateFault _ _ _ => p.mask.gateFault
        | .gateClear _ => p.mask.gateClear
        | .watch _ _ _ _ _ => p.mask.watch
        | .hours _ _ _ _ _ => p.mask.hours
        | .evac _ _ _ _ => p.mask.evac
        | .cadence _ _ _ _ => p.mask.cadence) →
      (queued = false → p.post n = p)
      ∧ (queued = true → p.notices.length < 32 → p.post n = { p with notices := p.notices ++ [n] })
      ∧ ∀ (before : List RouteResult) (old : Notice) (after : List Notice), queued = true → 32 ≤ p.notices.length →
          p.notices = before.map Notice.routeResult ++ old :: after → (∀ r, old ≠ .routeResult r) →
          p.post n = { p with notices := before.map Notice.routeResult ++ after ++ [n], lost := true })
  ∧ (∀ n : Notice, noticeLine n = match n with
      | .routeResult r => ⟨some .routeResult,
          [(.route, .num r.id)] ++ (match r.screen with | none => [] | some k => [(.screen, .num k)])
          ++ [(.cls, .word (match r.cls with | .normal => .normal | .evacuation => .evacuation)),
              (.outcome, .word (outcomeWord r.outcome)), (.flags, .words (r.flags.map routeFlagWord))]
          ++ (match r.listing with | none => [] | some l => [(.listing, .num l)])
          ++ (match r.arrival with | none => [] | some k => [(.arrival, .num k)])
          ++ [(.cost, .num r.cost), (.eta, .num r.eta), (.gen, .num r.generation), (.legs, .legs r.legs)]⟩
      | .zoneClass z o k t => ⟨some .zoneClass,
          [(.zone, .num z), (.old, .word (classWord o)), (.new, .word (classWord k)), (.tick, .num t)]⟩
      | .gateFault g beam w => ⟨some .gateFault,
          [(.gate, .num g), (.beam, .word (match beam with | .a => .a | .b => .b)), (.was, .word (gateStateWord w))]⟩
      | .gateClear g => ⟨some .gateClear, [(.gate, .num g)]⟩
      | .watch i a v t c => ⟨some .watch,
          [(.watch, .num i), (.action, .word (actionWord a)), (.value, .num v), (.tick, .num t)]
          ++ (match a with
            | .pulse l => [(.line, .num l)]
            | .apply z => [(.zone, .num z), (.closedNow, .num (if c then 1 else 0))]
            | .report | .freeze | .stage => [])⟩
      | .hours c d m k g => ⟨some .hours,
          [(.changed, .num c), (.weekday, .num d), (.minute, .num m), (.cause, .word (if k then .clock else .minute)),
           (.gen, .num g)]⟩
      | .evac st c l g => ⟨some .evac,
          [(.state, .word (evacStateWord st)), (.cause, .word (evacCauseWord c)), (.line, .num (if l then 1 else 0)),
           (.gen, .num g)]⟩
      | .cadence t p m h => ⟨some .cadence,
          [(.timer, .num t), (.page, .num p), (.cause, .word (if m then .master else .period)),
           (.halted, .num (if h then 1 else 0))]⟩)
  ∧ (∀ m : NoticeMask, maskFields m =
      [(.routeResult, .num (if m.routeResult then 1 else 0)), (.zoneClass, .num (if m.zoneClass then 1 else 0)),
       (.gateFault, .num (if m.gateFault then 1 else 0)), (.gateClear, .num (if m.gateClear then 1 else 0)),
       (.watch, .num (if m.watch then 1 else 0)), (.hours, .num (if m.hours then 1 else 0)),
       (.evac, .num (if m.evac then 1 else 0)), (.cadence, .num (if m.cadence then 1 else 0))])
  ∧ ∀ (s : State) (c : Instr) (tag : Nat), c.tag? = some tag → ∃ (t : State) (a : Answer),
      exec c s = .next (t.reply tag a) ∧ (a.status ≠ .ok → t = s.taken c)
end

