-- ==== Sys2Proof/Laws/State.lean ====
section
/-!
SUPPORT. One lemma per field for each update of the state, so that later proofs unfold no record update.
-/

namespace Sys2Proof.Machine

/-! ### `withMap` -/

@[simp] theorem State.withMap_map (s : State) (m : MapStore) : (s.withMap m).map = m := rfl
@[simp] theorem State.withMap_screens (s : State) (m : MapStore) : (s.withMap m).screens = s.screens := rfl
@[simp] theorem State.withMap_queue (s : State) (m : MapStore) : (s.withMap m).queue = s.queue := rfl
@[simp] theorem State.withMap_units (s : State) (m : MapStore) : (s.withMap m).units = s.units := rfl
@[simp] theorem State.withMap_gates (s : State) (m : MapStore) : (s.withMap m).gates = s.gates := rfl
@[simp] theorem State.withMap_census (s : State) (m : MapStore) : (s.withMap m).census = s.census := rfl
@[simp] theorem State.withMap_watches (s : State) (m : MapStore) : (s.withMap m).watches = s.watches := rfl
@[simp] theorem State.withMap_evac (s : State) (m : MapStore) : (s.withMap m).evac = s.evac := rfl
@[simp] theorem State.withMap_clock (s : State) (m : MapStore) : (s.withMap m).clock = s.clock := rfl
@[simp] theorem State.withMap_port (s : State) (m : MapStore) : (s.withMap m).port = s.port := rfl
@[simp] theorem State.withMap_free (s : State) (m : MapStore) : (s.withMap m).free = s.free := rfl
@[simp] theorem State.withMap_pending (s : State) (m : MapStore) : (s.withMap m).pending = s.pending := rfl

/-! ### `withScreens` -/

@[simp] theorem State.withScreens_map (s : State) (v : Vector (Option Screen) 48) : (s.withScreens v).map = s.map := rfl
@[simp] theorem State.withScreens_screens (s : State) (v : Vector (Option Screen) 48) : (s.withScreens v).screens = v := rfl
@[simp] theorem State.withScreens_queue (s : State) (v : Vector (Option Screen) 48) : (s.withScreens v).queue = s.queue := rfl
@[simp] theorem State.withScreens_units (s : State) (v : Vector (Option Screen) 48) : (s.withScreens v).units = s.units := rfl
@[simp] theorem State.withScreens_gates (s : State) (v : Vector (Option Screen) 48) : (s.withScreens v).gates = s.gates := rfl
@[simp] theorem State.withScreens_census (s : State) (v : Vector (Option Screen) 48) : (s.withScreens v).census = s.census := rfl
@[simp] theorem State.withScreens_watches (s : State) (v : Vector (Option Screen) 48) : (s.withScreens v).watches = s.watches := rfl
@[simp] theorem State.withScreens_evac (s : State) (v : Vector (Option Screen) 48) : (s.withScreens v).evac = s.evac := rfl
@[simp] theorem State.withScreens_clock (s : State) (v : Vector (Option Screen) 48) : (s.withScreens v).clock = s.clock := rfl
@[simp] theorem State.withScreens_port (s : State) (v : Vector (Option Screen) 48) : (s.withScreens v).port = s.port := rfl
@[simp] theorem State.withScreens_free (s : State) (v : Vector (Option Screen) 48) : (s.withScreens v).free = s.free := rfl
@[simp] theorem State.withScreens_pending (s : State) (v : Vector (Option Screen) 48) : (s.withScreens v).pending = s.pending := rfl

/-! ### `withQueue` -/

@[simp] theorem State.withQueue_map (s : State) (q : RouteQueue) : (s.withQueue q).map = s.map := rfl
@[simp] theorem State.withQueue_screens (s : State) (q : RouteQueue) : (s.withQueue q).screens = s.screens := rfl
@[simp] theorem State.withQueue_queue (s : State) (q : RouteQueue) : (s.withQueue q).queue = q := rfl
@[simp] theorem State.withQueue_units (s : State) (q : RouteQueue) : (s.withQueue q).units = s.units := rfl
@[simp] theorem State.withQueue_gates (s : State) (q : RouteQueue) : (s.withQueue q).gates = s.gates := rfl
@[simp] theorem State.withQueue_census (s : State) (q : RouteQueue) : (s.withQueue q).census = s.census := rfl
@[simp] theorem State.withQueue_watches (s : State) (q : RouteQueue) : (s.withQueue q).watches = s.watches := rfl
@[simp] theorem State.withQueue_evac (s : State) (q : RouteQueue) : (s.withQueue q).evac = s.evac := rfl
@[simp] theorem State.withQueue_clock (s : State) (q : RouteQueue) : (s.withQueue q).clock = s.clock := rfl
@[simp] theorem State.withQueue_port (s : State) (q : RouteQueue) : (s.withQueue q).port = s.port := rfl
@[simp] theorem State.withQueue_free (s : State) (q : RouteQueue) : (s.withQueue q).free = s.free := rfl
@[simp] theorem State.withQueue_pending (s : State) (q : RouteQueue) : (s.withQueue q).pending = s.pending := rfl

/-! ### `withUnits` -/

@[simp] theorem State.withUnits_map (s : State) (u : Units) : (s.withUnits u).map = s.map := rfl
@[simp] theorem State.withUnits_screens (s : State) (u : Units) : (s.withUnits u).screens = s.screens := rfl
@[simp] theorem State.withUnits_queue (s : State) (u : Units) : (s.withUnits u).queue = s.queue := rfl
@[simp] theorem State.withUnits_units (s : State) (u : Units) : (s.withUnits u).units = u := rfl
@[simp] theorem State.withUnits_gates (s : State) (u : Units) : (s.withUnits u).gates = s.gates := rfl
@[simp] theorem State.withUnits_census (s : State) (u : Units) : (s.withUnits u).census = s.census := rfl
@[simp] theorem State.withUnits_watches (s : State) (u : Units) : (s.withUnits u).watches = s.watches := rfl
@[simp] theorem State.withUnits_evac (s : State) (u : Units) : (s.withUnits u).evac = s.evac := rfl
@[simp] theorem State.withUnits_clock (s : State) (u : Units) : (s.withUnits u).clock = s.clock := rfl
@[simp] theorem State.withUnits_port (s : State) (u : Units) : (s.withUnits u).port = s.port := rfl
@[simp] theorem State.withUnits_free (s : State) (u : Units) : (s.withUnits u).free = s.free := rfl
@[simp] theorem State.withUnits_pending (s : State) (u : Units) : (s.withUnits u).pending = s.pending := rfl

/-! ### `withGates` -/

@[simp] theorem State.withGates_map (s : State) (v : Vector Gate 32) : (s.withGates v).map = s.map := rfl
@[simp] theorem State.withGates_screens (s : State) (v : Vector Gate 32) : (s.withGates v).screens = s.screens := rfl
@[simp] theorem State.withGates_queue (s : State) (v : Vector Gate 32) : (s.withGates v).queue = s.queue := rfl
@[simp] theorem State.withGates_units (s : State) (v : Vector Gate 32) : (s.withGates v).units = s.units := rfl
@[simp] theorem State.withGates_gates (s : State) (v : Vector Gate 32) : (s.withGates v).gates = v := rfl
@[simp] theorem State.withGates_census (s : State) (v : Vector Gate 32) : (s.withGates v).census = s.census := rfl
@[simp] theorem State.withGates_watches (s : State) (v : Vector Gate 32) : (s.withGates v).watches = s.watches := rfl
@[simp] theorem State.withGates_evac (s : State) (v : Vector Gate 32) : (s.withGates v).evac = s.evac := rfl
@[simp] theorem State.withGates_clock (s : State) (v : Vector Gate 32) : (s.withGates v).clock = s.clock := rfl
@[simp] theorem State.withGates_port (s : State) (v : Vector Gate 32) : (s.withGates v).port = s.port := rfl
@[simp] theorem State.withGates_free (s : State) (v : Vector Gate 32) : (s.withGates v).free = s.free := rfl
@[simp] theorem State.withGates_pending (s : State) (v : Vector Gate 32) : (s.withGates v).pending = s.pending := rfl

/-! ### `withCensus` -/

@[simp] theorem State.withCensus_map (s : State) (c : Census) : (s.withCensus c).map = s.map := rfl
@[simp] theorem State.withCensus_screens (s : State) (c : Census) : (s.withCensus c).screens = s.screens := rfl
@[simp] theorem State.withCensus_queue (s : State) (c : Census) : (s.withCensus c).queue = s.queue := rfl
@[simp] theorem State.withCensus_units (s : State) (c : Census) : (s.withCensus c).units = s.units := rfl
@[simp] theorem State.withCensus_gates (s : State) (c : Census) : (s.withCensus c).gates = s.gates := rfl
@[simp] theorem State.withCensus_census (s : State) (c : Census) : (s.withCensus c).census = c := rfl
@[simp] theorem State.withCensus_watches (s : State) (c : Census) : (s.withCensus c).watches = s.watches := rfl
@[simp] theorem State.withCensus_evac (s : State) (c : Census) : (s.withCensus c).evac = s.evac := rfl
@[simp] theorem State.withCensus_clock (s : State) (c : Census) : (s.withCensus c).clock = s.clock := rfl
@[simp] theorem State.withCensus_port (s : State) (c : Census) : (s.withCensus c).port = s.port := rfl
@[simp] theorem State.withCensus_free (s : State) (c : Census) : (s.withCensus c).free = s.free := rfl
@[simp] theorem State.withCensus_pending (s : State) (c : Census) : (s.withCensus c).pending = s.pending := rfl

/-! ### `withWatches` -/

@[simp] theorem State.withWatches_map (s : State) (w : WatchUnit) : (s.withWatches w).map = s.map := rfl
@[simp] theorem State.withWatches_screens (s : State) (w : WatchUnit) : (s.withWatches w).screens = s.screens := rfl
@[simp] theorem State.withWatches_queue (s : State) (w : WatchUnit) : (s.withWatches w).queue = s.queue := rfl
@[simp] theorem State.withWatches_units (s : State) (w : WatchUnit) : (s.withWatches w).units = s.units := rfl
@[simp] theorem State.withWatches_gates (s : State) (w : WatchUnit) : (s.withWatches w).gates = s.gates := rfl
@[simp] theorem State.withWatches_census (s : State) (w : WatchUnit) : (s.withWatches w).census = s.census := rfl
@[simp] theorem State.withWatches_watches (s : State) (w : WatchUnit) : (s.withWatches w).watches = w := rfl
@[simp] theorem State.withWatches_evac (s : State) (w : WatchUnit) : (s.withWatches w).evac = s.evac := rfl
@[simp] theorem State.withWatches_clock (s : State) (w : WatchUnit) : (s.withWatches w).clock = s.clock := rfl
@[simp] theorem State.withWatches_port (s : State) (w : WatchUnit) : (s.withWatches w).port = s.port := rfl
@[simp] theorem State.withWatches_free (s : State) (w : WatchUnit) : (s.withWatches w).free = s.free := rfl
@[simp] theorem State.withWatches_pending (s : State) (w : WatchUnit) : (s.withWatches w).pending = s.pending := rfl

/-! ### `withEvac` -/

@[simp] theorem State.withEvac_map (s : State) (e : EvacControl) : (s.withEvac e).map = s.map := rfl
@[simp] theorem State.withEvac_screens (s : State) (e : EvacControl) : (s.withEvac e).screens = s.screens := rfl
@[simp] theorem State.withEvac_queue (s : State) (e : EvacControl) : (s.withEvac e).queue = s.queue := rfl
@[simp] theorem State.withEvac_units (s : State) (e : EvacControl) : (s.withEvac e).units = s.units := rfl
@[simp] theorem State.withEvac_gates (s : State) (e : EvacControl) : (s.withEvac e).gates = s.gates := rfl
@[simp] theorem State.withEvac_census (s : State) (e : EvacControl) : (s.withEvac e).census = s.census := rfl
@[simp] theorem State.withEvac_watches (s : State) (e : EvacControl) : (s.withEvac e).watches = s.watches := rfl
@[simp] theorem State.withEvac_evac (s : State) (e : EvacControl) : (s.withEvac e).evac = e := rfl
@[simp] theorem State.withEvac_clock (s : State) (e : EvacControl) : (s.withEvac e).clock = s.clock := rfl
@[simp] theorem State.withEvac_port (s : State) (e : EvacControl) : (s.withEvac e).port = s.port := rfl
@[simp] theorem State.withEvac_free (s : State) (e : EvacControl) : (s.withEvac e).free = s.free := rfl
@[simp] theorem State.withEvac_pending (s : State) (e : EvacControl) : (s.withEvac e).pending = s.pending := rfl

/-! ### `withClock` -/

@[simp] theorem State.withClock_map (s : State) (c : ClockBlock) : (s.withClock c).map = s.map := rfl
@[simp] theorem State.withClock_screens (s : State) (c : ClockBlock) : (s.withClock c).screens = s.screens := rfl
@[simp] theorem State.withClock_queue (s : State) (c : ClockBlock) : (s.withClock c).queue = s.queue := rfl
@[simp] theorem State.withClock_units (s : State) (c : ClockBlock) : (s.withClock c).units = s.units := rfl
@[simp] theorem State.withClock_gates (s : State) (c : ClockBlock) : (s.withClock c).gates = s.gates := rfl
@[simp] theorem State.withClock_census (s : State) (c : ClockBlock) : (s.withClock c).census = s.census := rfl
@[simp] theorem State.withClock_watches (s : State) (c : ClockBlock) : (s.withClock c).watches = s.watches := rfl
@[simp] theorem State.withClock_evac (s : State) (c : ClockBlock) : (s.withClock c).evac = s.evac := rfl
@[simp] theorem State.withClock_clock (s : State) (c : ClockBlock) : (s.withClock c).clock = c := rfl
@[simp] theorem State.withClock_port (s : State) (c : ClockBlock) : (s.withClock c).port = s.port := rfl
@[simp] theorem State.withClock_free (s : State) (c : ClockBlock) : (s.withClock c).free = s.free := rfl
@[simp] theorem State.withClock_pending (s : State) (c : ClockBlock) : (s.withClock c).pending = s.pending := rfl

/-! ### `withPort` -/

@[simp] theorem State.withPort_map (s : State) (p : Port) : (s.withPort p).map = s.map := rfl
@[simp] theorem State.withPort_screens (s : State) (p : Port) : (s.withPort p).screens = s.screens := rfl
@[simp] theorem State.withPort_queue (s : State) (p : Port) : (s.withPort p).queue = s.queue := rfl
@[simp] theorem State.withPort_units (s : State) (p : Port) : (s.withPort p).units = s.units := rfl
@[simp] theorem State.withPort_gates (s : State) (p : Port) : (s.withPort p).gates = s.gates := rfl
@[simp] theorem State.withPort_census (s : State) (p : Port) : (s.withPort p).census = s.census := rfl
@[simp] theorem State.withPort_watches (s : State) (p : Port) : (s.withPort p).watches = s.watches := rfl
@[simp] theorem State.withPort_evac (s : State) (p : Port) : (s.withPort p).evac = s.evac := rfl
@[simp] theorem State.withPort_clock (s : State) (p : Port) : (s.withPort p).clock = s.clock := rfl
@[simp] theorem State.withPort_port (s : State) (p : Port) : (s.withPort p).port = p := rfl
@[simp] theorem State.withPort_free (s : State) (p : Port) : (s.withPort p).free = s.free := rfl
@[simp] theorem State.withPort_pending (s : State) (p : Port) : (s.withPort p).pending = s.pending := rfl

/-! ### `modifyZone` -/

@[simp] theorem State.modifyZone_map (s : State) (z : Fin 32) (f : Zone → Zone) :
    (s.modifyZone z f).map = s.map := rfl
@[simp] theorem State.modifyZone_screens (s : State) (z : Fin 32) (f : Zone → Zone) :
    (s.modifyZone z f).screens = s.screens := rfl
@[simp] theorem State.modifyZone_queue (s : State) (z : Fin 32) (f : Zone → Zone) :
    (s.modifyZone z f).queue = s.queue := rfl
@[simp] theorem State.modifyZone_units (s : State) (z : Fin 32) (f : Zone → Zone) :
    (s.modifyZone z f).units = s.units := rfl
@[simp] theorem State.modifyZone_gates (s : State) (z : Fin 32) (f : Zone → Zone) :
    (s.modifyZone z f).gates = s.gates := rfl
@[simp] theorem State.modifyZone_census (s : State) (z : Fin 32) (f : Zone → Zone) :
    (s.modifyZone z f).census = { s.census with zones := modifyAt s.census.zones z f } := rfl
@[simp] theorem State.modifyZone_watches (s : State) (z : Fin 32) (f : Zone → Zone) :
    (s.modifyZone z f).watches = s.watches := rfl
@[simp] theorem State.modifyZone_evac (s : State) (z : Fin 32) (f : Zone → Zone) :
    (s.modifyZone z f).evac = s.evac := rfl
@[simp] theorem State.modifyZone_clock (s : State) (z : Fin 32) (f : Zone → Zone) :
    (s.modifyZone z f).clock = s.clock := rfl
@[simp] theorem State.modifyZone_port (s : State) (z : Fin 32) (f : Zone → Zone) :
    (s.modifyZone z f).port = s.port := rfl
@[simp] theorem State.modifyZone_free (s : State) (z : Fin 32) (f : Zone → Zone) :
    (s.modifyZone z f).free = s.free := rfl
@[simp] theorem State.modifyZone_pending (s : State) (z : Fin 32) (f : Zone → Zone) :
    (s.modifyZone z f).pending = s.pending := rfl

/-! ### `modifyGate` -/

@[simp] theorem State.modifyGate_map (s : State) (g : Fin 32) (f : Gate → Gate) :
    (s.modifyGate g f).map = s.map := rfl
@[simp] theorem State.modifyGate_screens (s : State) (g : Fin 32) (f : Gate → Gate) :
    (s.modifyGate g f).screens = s.screens := rfl
@[simp] theorem State.modifyGate_queue (s : State) (g : Fin 32) (f : Gate → Gate) :
    (s.modifyGate g f).queue = s.queue := rfl
@[simp] theorem State.modifyGate_units (s : State) (g : Fin 32) (f : Gate → Gate) :
    (s.modifyGate g f).units = s.units := rfl
@[simp] theorem State.modifyGate_gates (s : State) (g : Fin 32) (f : Gate → Gate) :
    (s.modifyGate g f).gates = modifyAt s.gates g f := rfl
@[simp] theorem State.modifyGate_census (s : State) (g : Fin 32) (f : Gate → Gate) :
    (s.modifyGate g f).census = s.census := rfl
@[simp] theorem State.modifyGate_watches (s : State) (g : Fin 32) (f : Gate → Gate) :
    (s.modifyGate g f).watches = s.watches := rfl
@[simp] theorem State.modifyGate_evac (s : State) (g : Fin 32) (f : Gate → Gate) :
    (s.modifyGate g f).evac = s.evac := rfl
@[simp] theorem State.modifyGate_clock (s : State) (g : Fin 32) (f : Gate → Gate) :
    (s.modifyGate g f).clock = s.clock := rfl
@[simp] theorem State.modifyGate_port (s : State) (g : Fin 32) (f : Gate → Gate) :
    (s.modifyGate g f).port = s.port := rfl
@[simp] theorem State.modifyGate_free (s : State) (g : Fin 32) (f : Gate → Gate) :
    (s.modifyGate g f).free = s.free := rfl
@[simp] theorem State.modifyGate_pending (s : State) (g : Fin 32) (f : Gate → Gate) :
    (s.modifyGate g f).pending = s.pending := rfl

/-! ### `modifyWatch` -/

@[simp] theorem State.modifyWatch_map (s : State) (w : Fin 8) (f : Watch → Watch) :
    (s.modifyWatch w f).map = s.map := rfl
@[simp] theorem State.modifyWatch_screens (s : State) (w : Fin 8) (f : Watch → Watch) :
    (s.modifyWatch w f).screens = s.screens := rfl
@[simp] theorem State.modifyWatch_queue (s : State) (w : Fin 8) (f : Watch → Watch) :
    (s.modifyWatch w f).queue = s.queue := rfl
@[simp] theorem State.modifyWatch_units (s : State) (w : Fin 8) (f : Watch → Watch) :
    (s.modifyWatch w f).units = s.units := rfl
@[simp] theorem State.modifyWatch_gates (s : State) (w : Fin 8) (f : Watch → Watch) :
    (s.modifyWatch w f).gates = s.gates := rfl
@[simp] theorem State.modifyWatch_census (s : State) (w : Fin 8) (f : Watch → Watch) :
    (s.modifyWatch w f).census = s.census := rfl
@[simp] theorem State.modifyWatch_watches (s : State) (w : Fin 8) (f : Watch → Watch) :
    (s.modifyWatch w f).watches = { s.watches with watches := modifyAt s.watches.watches w f } := rfl
@[simp] theorem State.modifyWatch_evac (s : State) (w : Fin 8) (f : Watch → Watch) :
    (s.modifyWatch w f).evac = s.evac := rfl
@[simp] theorem State.modifyWatch_clock (s : State) (w : Fin 8) (f : Watch → Watch) :
    (s.modifyWatch w f).clock = s.clock := rfl
@[simp] theorem State.modifyWatch_port (s : State) (w : Fin 8) (f : Watch → Watch) :
    (s.modifyWatch w f).port = s.port := rfl
@[simp] theorem State.modifyWatch_free (s : State) (w : Fin 8) (f : Watch → Watch) :
    (s.modifyWatch w f).free = s.free := rfl
@[simp] theorem State.modifyWatch_pending (s : State) (w : Fin 8) (f : Watch → Watch) :
    (s.modifyWatch w f).pending = s.pending := rfl

/-! ### `modifyTimer` -/

@[simp] theorem State.modifyTimer_map (s : State) (t : Fin 8) (f : CadenceTimer → CadenceTimer) :
    (s.modifyTimer t f).map = s.map := rfl
@[simp] theorem State.modifyTimer_screens (s : State) (t : Fin 8) (f : CadenceTimer → CadenceTimer) :
    (s.modifyTimer t f).screens = s.screens := rfl
@[simp] theorem State.modifyTimer_queue (s : State) (t : Fin 8) (f : CadenceTimer → CadenceTimer) :
    (s.modifyTimer t f).queue = s.queue := rfl
@[simp] theorem State.modifyTimer_units (s : State) (t : Fin 8) (f : CadenceTimer → CadenceTimer) :
    (s.modifyTimer t f).units = s.units := rfl
@[simp] theorem State.modifyTimer_gates (s : State) (t : Fin 8) (f : CadenceTimer → CadenceTimer) :
    (s.modifyTimer t f).gates = s.gates := rfl
@[simp] theorem State.modifyTimer_census (s : State) (t : Fin 8) (f : CadenceTimer → CadenceTimer) :
    (s.modifyTimer t f).census = s.census := rfl
@[simp] theorem State.modifyTimer_watches (s : State) (t : Fin 8) (f : CadenceTimer → CadenceTimer) :
    (s.modifyTimer t f).watches = s.watches := rfl
@[simp] theorem State.modifyTimer_evac (s : State) (t : Fin 8) (f : CadenceTimer → CadenceTimer) :
    (s.modifyTimer t f).evac = s.evac := rfl
@[simp] theorem State.modifyTimer_clock (s : State) (t : Fin 8) (f : CadenceTimer → CadenceTimer) :
    (s.modifyTimer t f).clock = { s.clock with timers := modifyAt s.clock.timers t f } := rfl
@[simp] theorem State.modifyTimer_port (s : State) (t : Fin 8) (f : CadenceTimer → CadenceTimer) :
    (s.modifyTimer t f).port = s.port := rfl
@[simp] theorem State.modifyTimer_free (s : State) (t : Fin 8) (f : CadenceTimer → CadenceTimer) :
    (s.modifyTimer t f).free = s.free := rfl
@[simp] theorem State.modifyTimer_pending (s : State) (t : Fin 8) (f : CadenceTimer → CadenceTimer) :
    (s.modifyTimer t f).pending = s.pending := rfl

/-! ### `modifySession` -/

@[simp] theorem State.modifySession_map (s : State) (n : Fin 48) (f : ScreenDecl → Session → Session) :
    (s.modifySession n f).map = s.map := rfl
@[simp] theorem State.modifySession_screens (s : State) (n : Fin 48) (f : ScreenDecl → Session → Session) :
    (s.modifySession n f).screens = modifyAt s.screens n fun o => o.map fun c => { c with session := f c.decl c.session } := rfl
@[simp] theorem State.modifySession_queue (s : State) (n : Fin 48) (f : ScreenDecl → Session → Session) :
    (s.modifySession n f).queue = s.queue := rfl
@[simp] theorem State.modifySession_units (s : State) (n : Fin 48) (f : ScreenDecl → Session → Session) :
    (s.modifySession n f).units = s.units := rfl
@[simp] theorem State.modifySession_gates (s : State) (n : Fin 48) (f : ScreenDecl → Session → Session) :
    (s.modifySession n f).gates = s.gates := rfl
@[simp] theorem State.modifySession_census (s : State) (n : Fin 48) (f : ScreenDecl → Session → Session) :
    (s.modifySession n f).census = s.census := rfl
@[simp] theorem State.modifySession_watches (s : State) (n : Fin 48) (f : ScreenDecl → Session → Session) :
    (s.modifySession n f).watches = s.watches := rfl
@[simp] theorem State.modifySession_evac (s : State) (n : Fin 48) (f : ScreenDecl → Session → Session) :
    (s.modifySession n f).evac = s.evac := rfl
@[simp] theorem State.modifySession_clock (s : State) (n : Fin 48) (f : ScreenDecl → Session → Session) :
    (s.modifySession n f).clock = s.clock := rfl
@[simp] theorem State.modifySession_port (s : State) (n : Fin 48) (f : ScreenDecl → Session → Session) :
    (s.modifySession n f).port = s.port := rfl
@[simp] theorem State.modifySession_free (s : State) (n : Fin 48) (f : ScreenDecl → Session → Session) :
    (s.modifySession n f).free = s.free := rfl
@[simp] theorem State.modifySession_pending (s : State) (n : Fin 48) (f : ScreenDecl → Session → Session) :
    (s.modifySession n f).pending = s.pending := rfl

/-! ### `mapSessions` -/

@[simp] theorem State.mapSessions_map (s : State) (f : ScreenDecl → Session → Session) :
    (s.mapSessions f).map = s.map := by
  simp only [State.mapSessions, State.withScreens_map]
@[simp] theorem State.mapSessions_screens (s : State) (f : ScreenDecl → Session → Session) :
    (s.mapSessions f).screens = mapFin (fun _ o => o.map fun c => { c with session := f c.decl c.session }) s.screens := by
  simp only [State.mapSessions, State.withScreens_screens]
@[simp] theorem State.mapSessions_queue (s : State) (f : ScreenDecl → Session → Session) :
    (s.mapSessions f).queue = s.queue := by
  simp only [State.mapSessions, State.withScreens_queue]
@[simp] theorem State.mapSessions_units (s : State) (f : ScreenDecl → Session → Session) :
    (s.mapSessions f).units = s.units := by
  simp only [State.mapSessions, State.withScreens_units]
@[simp] theorem State.mapSessions_gates (s : State) (f : ScreenDecl → Session → Session) :
    (s.mapSessions f).gates = s.gates := by
  simp only [State.mapSessions, State.withScreens_gates]
@[simp] theorem State.mapSessions_census (s : State) (f : ScreenDecl → Session → Session) :
    (s.mapSessions f).census = s.census := by
  simp only [State.mapSessions, State.withScreens_census]
@[simp] theorem State.mapSessions_watches (s : State) (f : ScreenDecl → Session → Session) :
    (s.mapSessions f).watches = s.watches := by
  simp only [State.mapSessions, State.withScreens_watches]
@[simp] theorem State.mapSessions_evac (s : State) (f : ScreenDecl → Session → Session) :
    (s.mapSessions f).evac = s.evac := by
  simp only [State.mapSessions, State.withScreens_evac]
@[simp] theorem State.mapSessions_clock (s : State) (f : ScreenDecl → Session → Session) :
    (s.mapSessions f).clock = s.clock := by
  simp only [State.mapSessions, State.withScreens_clock]
@[simp] theorem State.mapSessions_port (s : State) (f : ScreenDecl → Session → Session) :
    (s.mapSessions f).port = s.port := by
  simp only [State.mapSessions, State.withScreens_port]
@[simp] theorem State.mapSessions_free (s : State) (f : ScreenDecl → Session → Session) :
    (s.mapSessions f).free = s.free := by
  simp only [State.mapSessions, State.withScreens_free]
@[simp] theorem State.mapSessions_pending (s : State) (f : ScreenDecl → Session → Session) :
    (s.mapSessions f).pending = s.pending := by
  simp only [State.mapSessions, State.withScreens_pending]

/-! ### `setDue` -/

@[simp] theorem State.setDue_map (s : State) (n : Fin 48) (x : Bool) : (s.setDue n x).map = s.map := rfl
@[simp] theorem State.setDue_screens (s : State) (n : Fin 48) (x : Bool) : (s.setDue n x).screens = s.screens := rfl
@[simp] theorem State.setDue_queue (s : State) (n : Fin 48) (x : Bool) : (s.setDue n x).queue = s.queue := rfl
@[simp] theorem State.setDue_units (s : State) (n : Fin 48) (x : Bool) : (s.setDue n x).units = s.units := rfl
@[simp] theorem State.setDue_gates (s : State) (n : Fin 48) (x : Bool) : (s.setDue n x).gates = s.gates := rfl
@[simp] theorem State.setDue_census (s : State) (n : Fin 48) (x : Bool) : (s.setDue n x).census = s.census := rfl
@[simp] theorem State.setDue_watches (s : State) (n : Fin 48) (x : Bool) : (s.setDue n x).watches = s.watches := rfl
@[simp] theorem State.setDue_evac (s : State) (n : Fin 48) (x : Bool) :
    (s.setDue n x).evac = { s.evac with due := s.evac.due.set n x } := rfl
@[simp] theorem State.setDue_clock (s : State) (n : Fin 48) (x : Bool) : (s.setDue n x).clock = s.clock := rfl
@[simp] theorem State.setDue_port (s : State) (n : Fin 48) (x : Bool) : (s.setDue n x).port = s.port := rfl
@[simp] theorem State.setDue_free (s : State) (n : Fin 48) (x : Bool) : (s.setDue n x).free = s.free := rfl
@[simp] theorem State.setDue_pending (s : State) (n : Fin 48) (x : Bool) : (s.setDue n x).pending = s.pending := rfl

/-! ### `post` -/

@[simp] theorem State.post_map (s : State) (n : Notice) : (s.post n).map = s.map := State.withPort_map s _
@[simp] theorem State.post_screens (s : State) (n : Notice) :
    (s.post n).screens = s.screens := State.withPort_screens s _
@[simp] theorem State.post_queue (s : State) (n : Notice) : (s.post n).queue = s.queue := State.withPort_queue s _
@[simp] theorem State.post_units (s : State) (n : Notice) : (s.post n).units = s.units := State.withPort_units s _
@[simp] theorem State.post_gates (s : State) (n : Notice) : (s.post n).gates = s.gates := State.withPort_gates s _
@[simp] theorem State.post_census (s : State) (n : Notice) : (s.post n).census = s.census := State.withPort_census s _
@[simp] theorem State.post_watches (s : State) (n : Notice) :
    (s.post n).watches = s.watches := State.withPort_watches s _
@[simp] theorem State.post_evac (s : State) (n : Notice) : (s.post n).evac = s.evac := State.withPort_evac s _
@[simp] theorem State.post_clock (s : State) (n : Notice) : (s.post n).clock = s.clock := State.withPort_clock s _
@[simp] theorem State.post_port (s : State) (n : Notice) : (s.post n).port = s.port.post n := State.withPort_port s _
@[simp] theorem State.post_free (s : State) (n : Notice) : (s.post n).free = s.free := State.withPort_free s _
@[simp] theorem State.post_pending (s : State) (n : Notice) :
    (s.post n).pending = s.pending := State.withPort_pending s _

end Sys2Proof.Machine
end

