-- ==== Sys2Proof/Laws/Ops.lean ====
section
/-!
SUPPORT. What the shared operations over tables, vectors and the notice queue do, said once each.
-/

namespace Sys2Proof.Machine

/-! ## Arithmetic words -/

theorem satInc_le (top n : Nat) : satInc top n ≤ top := Nat.min_le_left _ _

theorem wrapInc_lt {size : Nat} (h : 0 < size) (n : Nat) : wrapInc size n < size := Nat.mod_lt _ h

theorem clampTo_bounds {lo hi : Nat} (h : lo ≤ hi) (n : Nat) : lo ≤ clampTo lo hi n ∧ clampTo lo hi n ≤ hi := by
  unfold clampTo; omega

theorem clampTo_of_within {lo hi n : Nat} (h : lo ≤ n) (h' : n ≤ hi) : clampTo lo hi n = n := by
  unfold clampTo; omega

theorem toFin?_of_lt {n k : Nat} (h : k < n) : toFin? n k = some ⟨k, h⟩ := dif_pos h

theorem toFin?_of_le {n k : Nat} (h : n ≤ k) : toFin? n k = none := dif_neg (by omega)

theorem toFin?_val {n : Nat} (k : Fin n) : toFin? n k.val = some k := dif_pos k.isLt

/-! ## Vectors -/

@[simp] theorem mapFin_get {α β : Type} {n : Nat} (f : Fin n → α → β) (v : Vector α n) (i : Fin n) :
    (mapFin f v)[i] = f i v[i] := by simp [mapFin]

@[simp] theorem modifyAt_get_self {α : Type} {n : Nat} (v : Vector α n) (i : Fin n) (f : α → α) :
    (modifyAt v i f)[i] = f v[i] := by simp [modifyAt]

theorem modifyAt_get_ne {α : Type} {n : Nat} (v : Vector α n) {i j : Fin n} (f : α → α) (h : i ≠ j) :
    (modifyAt v i f)[j] = v[j] := by
  have : i.val ≠ j.val := fun e => h (Fin.ext e)
  simp [modifyAt, this]

theorem modifyAt_get {α : Type} {n : Nat} (v : Vector α n) (i j : Fin n) (f : α → α) :
    (modifyAt v i f)[j] = if i = j then f v[j] else v[j] := by
  split
  · next h => subst h; exact modifyAt_get_self v i f
  · next h => exact modifyAt_get_ne v f h

/-! ## Tables -/

theorem Table.get_put_self {α : Type} (t : Table α) (k : Nat) (x : α) : (t.put k x).get k = some x := by
  induction t with
  | nil => simp [Table.put, Table.get]
  | cons p t ih =>
    obtain ⟨i, v⟩ := p
    simp only [Table.put]
    split
    · simp [Table.get]
    · split
      · simp [Table.get]
      · next h1 h2 => simp [Table.get, Ne.symm h2, ih]

theorem Table.get_put_ne {α : Type} (t : Table α) {k j : Nat} (x : α) (h : k ≠ j) : (t.put k x).get j = t.get j := by
  induction t with
  | nil => simp [Table.put, Table.get, h]
  | cons p t ih =>
    obtain ⟨i, v⟩ := p
    simp only [Table.put]
    split
    · simp [Table.get, h]
    · split
      · next h1 h2 => subst h2; simp [Table.get, h]
      · simp only [Table.get, ih]

theorem Table.get_put {α : Type} (t : Table α) (k j : Nat) (x : α) :
    (t.put k x).get j = if j = k then some x else t.get j := by
  split
  · next h => subst h; exact Table.get_put_self t j x
  · next h => exact Table.get_put_ne t x (Ne.symm h)

theorem Table.get_erase {α : Type} (t : Table α) (k j : Nat) :
    (t.erase k).get j = if j = k then none else t.get j := by
  induction t with
  | nil => simp [Table.erase, Table.get]
  | cons p t ih =>
    obtain ⟨i, v⟩ := p
    unfold Table.erase at ih ⊢
    simp only [List.filter_cons]
    by_cases hik : i = k
    · subst hik
      simp only [bne_self_eq_false, Bool.false_eq_true, if_false, ih, Table.get]
      split
      · rfl
      · next h => simp [Ne.symm h]
    · simp only [bne_iff_ne, ne_eq, hik, not_false_eq_true, if_true, Table.get, ih]
      split
      · next h => subst h; simp [hik]
      · rfl

theorem Table.mem_put {α : Type} {t : Table α} {k : Nat} {x : α} {q : Nat × α} (h : q ∈ t.put k x) :
    q = (k, x) ∨ q ∈ t := by
  induction t with
  | nil => simpa [Table.put] using h
  | cons p t ih =>
    obtain ⟨i, v⟩ := p
    simp only [Table.put] at h
    split at h
    · simpa using h
    · split at h
      · rcases List.mem_cons.mp h with h | h
        · exact .inl h
        · exact .inr (List.mem_cons_of_mem _ h)
      · rcases List.mem_cons.mp h with h | h
        · exact .inr (by simp [h])
        · rcases ih h with h | h
          · exact .inl h
          · exact .inr (List.mem_cons_of_mem _ h)

/-- Storing a record keeps a table's form. -/
theorem Table.wf_put {α : Type} {t : Table α} (h : t.wf) (k : Nat) (x : α) : (t.put k x).wf := by
  induction t with
  | nil => simp [Table.put, Table.wf]
  | cons p t ih =>
    obtain ⟨i, v⟩ := p
    obtain ⟨h1, h2⟩ := List.pairwise_cons.mp h
    simp only [Table.put]
    split
    · next hk =>
      refine List.pairwise_cons.mpr ⟨fun q hq => ?_, h⟩
      rcases List.mem_cons.mp hq with rfl | hq
      · exact hk
      · exact Nat.lt_trans hk (h1 q hq)
    · split
      · next hk => subst hk; exact List.pairwise_cons.mpr ⟨h1, h2⟩
      · next hk hk' =>
        refine List.pairwise_cons.mpr ⟨fun q hq => ?_, ih h2⟩
        rcases Table.mem_put hq with rfl | hq
        · exact Nat.lt_of_le_of_ne (Nat.le_of_not_lt hk) (Ne.symm hk')
        · exact h1 q hq

/-- Removing a record keeps a table's form. -/
theorem Table.wf_erase {α : Type} {t : Table α} (h : t.wf) (k : Nat) : (t.erase k).wf := List.Pairwise.filter _ h

/-- Changing the records but not the keys keeps a table's form. -/
theorem Table.wf_map {α : Type} {t : Table α} (h : t.wf) (f : α → α) :
    Table.wf (t.map fun q => (q.1, f q.2)) := List.pairwise_map.mpr h

theorem Table.mem_of_get {α : Type} {t : Table α} {k : Nat} {x : α} (h : t.get k = some x) : (k, x) ∈ t := by
  induction t with
  | nil => cases h
  | cons p t ih =>
    obtain ⟨i, v⟩ := p
    simp only [Table.get] at h
    split at h
    · next hi => cases h; subst hi; exact List.mem_cons_self
    · exact List.mem_cons_of_mem _ (ih h)

/-! ## The notice queue (R167) -/

theorem shedOldest_results (l : List Notice) : (shedOldest l).filter Notice.isResult = l.filter Notice.isResult := by
  induction l with
  | nil => rfl
  | cons n rest ih =>
    simp only [shedOldest]
    split
    · next h => simp [h, ih]
    · next h => simp [h]

theorem shedOldest_length {l : List Notice} (h : ∃ n ∈ l, n.isResult = false) :
    (shedOldest l).length + 1 = l.length := by
  induction l with
  | nil => obtain ⟨n, hn, _⟩ := h; cases hn
  | cons a rest ih =>
    simp only [shedOldest]
    split
    · next ha =>
      obtain ⟨n, hn, hr⟩ := h
      rcases List.mem_cons.mp hn with rfl | hn
      · simp [ha] at hr
      · simp [ih ⟨n, hn, hr⟩]
    · simp

/-- All that posting a notice can do (R167): nothing for a masked kind; otherwise the notice joins the tail, at a full queue
after the oldest notice that is no ROUTE_RESULT has left and NOTICES_LOST is set. -/
theorem Port.post_cases (p : Port) (n : Notice) :
    (p.mask.queues (noticeKindOf n) = false ∧ p.post n = p)
    ∨ (p.mask.queues (noticeKindOf n) = true ∧ p.notices.length < 32
        ∧ p.post n = { p with notices := p.notices ++ [n] })
    ∨ (p.mask.queues (noticeKindOf n) = true ∧ 32 ≤ p.notices.length
        ∧ p.post n = { p with notices := shedOldest p.notices ++ [n], lost := true }) := by
  unfold Port.post
  by_cases hm : p.mask.queues (noticeKindOf n) = true
  · by_cases hl : p.notices.length < 32
    · exact .inr (.inl ⟨hm, hl, by simp [hm, hl]⟩)
    · exact .inr (.inr ⟨hm, by omega, by simp [hm, hl]⟩)
  · exact .inl ⟨by simpa using hm, by simp [hm]⟩

/-- Posting changes the notice queue and NOTICES_LOST alone. -/
theorem Port.post_frame (p : Port) (n : Notice) :
    (p.post n).rx = p.rx ∧ (p.post n).dropping = p.dropping ∧ (p.post n).hand = p.hand ∧ (p.post n).input = p.input
    ∧ (p.post n).tx = p.tx ∧ (p.post n).frames = p.frames ∧ (p.post n).mask = p.mask := by
  unfold Port.post; split
  · split <;> exact ⟨rfl, rfl, rfl, rfl, rfl, rfl, rfl⟩
  · exact ⟨rfl, rfl, rfl, rfl, rfl, rfl, rfl⟩

/-- A posting keeps every ROUTE_RESULT waiting, and adds the one it posts. -/
theorem Port.post_results (p : Port) (n : Notice) :
    (p.post n).notices.filter Notice.isResult
      = p.notices.filter Notice.isResult ++ (if n.isResult then [n] else []) := by
  rcases p.post_cases n with ⟨hm, h⟩ | ⟨_, _, h⟩ | ⟨_, _, h⟩
  · have : n.isResult = false := by
      cases n <;> simp_all [noticeKindOf, NoticeMask.queues, Notice.isResult]
    simp [h, this]
  · rw [h]; simp only [List.filter_append]; cases hr : n.isResult <;> simp [hr]
  · rw [h]; simp only [List.filter_append, shedOldest_results]; cases hr : n.isResult <;> simp [hr]

end Sys2Proof.Machine
end

