-- ==== Sys2Proof/Laws/Routes.lean ====
section
/-!
SUPPORT. What the route machinery leaves alone: posting, handing an outcome on, ending entries, start events, grants, the sweep
and a completion change only the sessions, the queue, the units, the due flags, the FAILURES counter and the notices.
-/

namespace Sys2Proof.Machine

/-- What every act of the route machinery keeps. -/
structure RouteKeeps (s t : State) : Prop where
  map : t.map = s.map
  gates : t.gates = s.gates
  census : t.census = s.census
  clock : t.clock = s.clock
  free : t.free = s.free
  pending : t.pending = s.pending
  watchRecords : t.watches.watches = s.watches.watches
  alerts : t.watches.alerts = s.watches.alerts
  evacState : t.evac.state = s.evac.state
  evacLine : t.evac.line = s.evac.line
  evacLevel : t.evac.debounced = s.evac.debounced
  ack : t.evac.ack = s.evac.ack
  rx : t.port.rx = s.port.rx
  dropping : t.port.dropping = s.port.dropping
  hand : t.port.hand = s.port.hand
  input : t.port.input = s.port.input
  tx : t.port.tx = s.port.tx
  frames : t.port.frames = s.port.frames
  mask : t.port.mask = s.port.mask
  decls : ∀ n : Fin 48, (t.screens[n]).map Screen.decl = (s.screens[n]).map Screen.decl

namespace RouteKeeps

theorem refl (s : State) : RouteKeeps s s :=
  ⟨rfl, rfl, rfl, rfl, rfl, rfl, rfl, rfl, rfl, rfl, rfl, rfl, rfl, rfl, rfl, rfl, rfl, rfl, rfl, fun _ => rfl⟩

theorem trans {s t u : State} (h : RouteKeeps s t) (k : RouteKeeps t u) : RouteKeeps s u :=
  ⟨k.map.trans h.map, k.gates.trans h.gates, k.census.trans h.census, k.clock.trans h.clock, k.free.trans h.free,
   k.pending.trans h.pending, k.watchRecords.trans h.watchRecords, k.alerts.trans h.alerts,
   k.evacState.trans h.evacState, k.evacLine.trans h.evacLine, k.evacLevel.trans h.evacLevel, k.ack.trans h.ack,
   k.rx.trans h.rx, k.dropping.trans h.dropping, k.hand.trans h.hand, k.input.trans h.input, k.tx.trans h.tx,
   k.frames.trans h.frames, k.mask.trans h.mask, fun n => (k.decls n).trans (h.decls n)⟩

theorem post (s : State) (n : Notice) : RouteKeeps s (s.post n) := by
  obtain ⟨h1, h2, h3, h4, h5, h6, h7⟩ := s.port.post_frame n
  constructor <;> first | (intro k; rw [State.post_screens]) | simp [*]

theorem withQueue (s : State) (q : RouteQueue) : RouteKeeps s (s.withQueue q) :=
  { refl s with }

theorem withUnits (s : State) (u : Units) : RouteKeeps s (s.withUnits u) :=
  { refl s with }

theorem setDue (s : State) (n : Fin 48) (x : Bool) : RouteKeeps s (s.setDue n x) :=
  { refl s with }

theorem modifySession (s : State) (n : Fin 48) (f : ScreenDecl → Session → Session) :
    RouteKeeps s (s.modifySession n f) := by
  constructor <;> first
    | (intro k; rw [State.modifySession_screens, modifyAt_get]; split
       · simp [Function.comp_def]
       · rfl)
    | simp

theorem countFailure (s : State) (o : RouteOutcome) : RouteKeeps s (s.countFailure o) := by
  unfold State.countFailure; split
  · exact { refl s with }
  · exact refl s

theorem handOutcome (s : State) (r : RouteResult) : RouteKeeps s (s.handOutcome r) := by
  unfold State.handOutcome
  split
  · exact refl s
  · split
    · exact modifySession ..
    · dsimp only; split
      · exact (modifySession ..).trans (setDue ..)
      · exact modifySession ..

theorem postFromUnit (s : State) (u : UnitName) (r : RouteResult) : RouteKeeps s (s.postFromUnit u r) := by
  unfold State.postFromUnit
  exact (((post ..).trans (countFailure ..)).trans (handOutcome ..)).trans (withUnits ..)

theorem postFromQueue (s : State) (o : RouteOutcome) (e : Entry) : RouteKeeps s (s.postFromQueue o e) := by
  unfold State.postFromQueue
  exact (post ..).trans (handOutcome ..)

theorem foldl {α : Type} {f : State → α → State} (h : ∀ s a, RouteKeeps s (f s a)) (l : List α) (s : State) :
    RouteKeeps s (l.foldl f s) := by
  induction l generalizing s with
  | nil => exact refl s
  | cons a l ih => exact (h s a).trans (ih _)

theorem endQueued (s : State) (test : Entry → Bool) (o : RouteOutcome) : RouteKeeps s (s.endQueued test o) :=
  (withQueue ..).trans (foldl (fun s e => postFromQueue s o e) _ _)

theorem abortUnit (s : State) (u : UnitName) (test : Entry → Bool) (o : RouteOutcome) :
    RouteKeeps s (s.abortUnit u test o) := by
  unfold State.abortUnit
  split
  · exact refl s
  · split
    · exact postFromUnit ..
    · exact refl s

theorem endEntries (s : State) (test : Entry → Bool) (o : RouteOutcome) : RouteKeeps s (s.endEntries test o) := by
  unfold State.endEntries
  exact ((endQueued ..).trans (abortUnit ..)).trans (abortUnit ..)

theorem startAttempt (s : State) (u : UnitName) (e : Entry) (n : Nat) : RouteKeeps s (s.startAttempt u e n) := by
  unfold State.startAttempt
  dsimp only; split
  · exact (withUnits ..).trans (postFromUnit ..)
  · exact withUnits ..

theorem grant (s : State) (u : UnitName) : RouteKeeps s (s.grant u) := by
  unfold State.grant
  split
  · exact refl s
  · exact (withQueue ..).trans (startAttempt ..)

theorem accept (s : State) (o : Origin) (d : Dest) (p : Profile) (c : EntryClass) : RouteKeeps s (s.accept o d p c) :=
  withQueue ..

theorem sweepOne (s : State) (n : Fin 48) : RouteKeeps s (s.sweepOne n) := (accept ..).trans (setDue ..)

theorem settleStep {s t : State} (h : s.settleStep = some t) : RouteKeeps s t := by
  unfold State.settleStep at h
  split at h
  · cases h; exact grant ..
  · split at h
    · cases h; exact sweepOne ..
    · cases h

theorem settleLoop (n : Nat) (s : State) : RouteKeeps s (State.settleLoop n s) := by
  induction n generalizing s with
  | zero => exact refl s
  | succ n ih =>
    unfold State.settleLoop
    split
    · exact refl s
    · next h => exact (settleStep h).trans (ih _)

theorem settle (s : State) : RouteKeeps s s.settle := settleLoop ..

theorem completeAttempt (s : State) (u : UnitName) (a : Attempt) : RouteKeeps s (s.completeAttempt u a) := by
  unfold State.completeAttempt
  split
  · split
    · exact startAttempt ..
    · exact postFromUnit ..
  · exact postFromUnit ..

theorem complete (s : State) (u : UnitName) : RouteKeeps s (s.complete u) := by
  unfold State.complete
  split
  · exact refl s
  · exact (completeAttempt ..).trans (settle ..)

theorem endScreenEntry (s : State) (n : Fin 48) (o : RouteOutcome) : RouteKeeps s (s.endScreenEntry n o) := by
  unfold State.endScreenEntry
  split
  · exact (endEntries ..).trans (settle ..)
  · exact refl s

end RouteKeeps

/-! ## Grants -/

/-- A grant takes the head entry (R50, R54). -/
theorem grant_queue {s : State} {u : UnitName} {e : Entry} {rest : List Entry} (h : s.queue.entries = e :: rest) :
    s.grant u = (s.withQueue { s.queue with entries := rest }).startAttempt u e 1 := by
  simp [State.grant, h]

end Sys2Proof.Machine
end

