-- ==== Sys2Proof/Laws/Requests.lean ====
section
/-!
SUPPORT. The form of every request's outcome, and what the handler does with the line it answers.
-/

namespace Sys2Proof.Machine

/-- All that a checked effect can do: refuse with its first failing check, or be taken. -/
theorem checked_cases (checks : List (Bool × Answer)) (s : State) (take : State → State × Answer) :
    (∃ a, firstFailing checks = some a ∧ checked checks s take = (s, a))
    ∨ (firstFailing checks = none ∧ checked checks s take = take s) := by
  unfold checked
  split
  · next a h => exact .inl ⟨a, h, rfl⟩
  · next h => exact .inr ⟨h, rfl⟩

/-- A checked effect whose refusals change nothing once it is taken changes nothing when it is refused. -/
theorem checked_keeps {checks : List (Bool × Answer)} {s : State} {take : State → State × Answer}
    (h : (take s).2.status ≠ .ok → (take s).1 = s) :
    (checked checks s take).2.status ≠ .ok → (checked checks s take).1 = s := by
  rcases checked_cases checks s take with ⟨a, _, e⟩ | ⟨_, e⟩ <;> rw [e]
  · exact fun _ => rfl
  · exact h

/-- The checks of an effect, taken in order, refuse as the conditions that they decide do. -/
theorem firstFailing_of_conditions {l : List (Prop × Answer)} {m : List (Bool × Answer)} {y : Answer}
    (h : List.Forall₂ (fun p q => (p.1 ↔ q.1 = true) ∧ p.2 = q.2) l m) (hy : Safety.FirstFailing l y) :
    firstFailing m = some y := by
  induction h with
  | nil => exact hy.elim
  | @cons p q l m h1 _ ih =>
    obtain ⟨p, x⟩ := p
    obtain ⟨b, z⟩ := q
    obtain ⟨h, rfl⟩ := h1
    rcases hy with ⟨hp, rfl⟩ | ⟨hp, hy⟩
    · cases b
      · rfl
      · exact absurd (h.2 rfl) hp
    · obtain rfl : b = true := h.1 hp
      exact ih hy

/-- No check fails exactly when every one holds. -/
theorem firstFailing_none (checks : List (Bool × Answer)) :
    firstFailing checks = none ↔ ∀ p ∈ checks, p.1 = true := by
  induction checks with
  | nil => simp [firstFailing]
  | cons p rest ih =>
    obtain ⟨b, a⟩ := p
    cases b <;> simp [firstFailing, ih]

/-- A refusal that the checks give is one of theirs. -/
theorem firstFailing_mem {checks : List (Bool × Answer)} {a : Answer} (h : firstFailing checks = some a) :
    (false, a) ∈ checks := by
  induction checks with
  | nil => simp [firstFailing] at h
  | cons p rest ih =>
    obtain ⟨b, x⟩ := p
    cases b
    · simp [firstFailing] at h; subst h; exact List.mem_cons_self
    · exact List.mem_cons_of_mem _ (ih (by simpa [firstFailing] using h))

/-- A request's outcome is always a next state (R165). -/
theorem respond_next (c : Instr) (tag : Nat) (s : State) (effect : State → State × Answer) :
    respond c tag s effect = .next ((effect (s.taken c)).1.reply tag (effect (s.taken c)).2) := rfl

/-- Taking the line that a command answers changes the handler's line and the lines waiting alone. -/
theorem Port.answered_cases (p : Port) (c : Instr) :
    p.answered c = p
    ∨ (∃ l, p.hand = some l ∧ p.input = [] ∧ p.answered c = { p with hand := none })
    ∨ (∃ l next rest, p.hand = some l ∧ p.input = next :: rest
        ∧ p.answered c = { p with hand := some next, input := rest }) := by
  unfold Port.answered
  split
  · exact .inl rfl
  · next l hl =>
    split
    · cases hi : p.input with
      | nil => exact .inr (.inl ⟨l, hl, rfl, by simp [Port.refill]⟩)
      | cons x rest => exact .inr (.inr ⟨l, x, rest, hl, rfl, by simp [Port.refill]⟩)
    · exact .inl rfl

@[simp] theorem State.taken_map (s : State) (c : Instr) : (s.taken c).map = s.map := State.withPort_map ..
@[simp] theorem State.taken_screens (s : State) (c : Instr) : (s.taken c).screens = s.screens := State.withPort_screens ..
@[simp] theorem State.taken_queue (s : State) (c : Instr) : (s.taken c).queue = s.queue := State.withPort_queue ..
@[simp] theorem State.taken_units (s : State) (c : Instr) : (s.taken c).units = s.units := State.withPort_units ..
@[simp] theorem State.taken_gates (s : State) (c : Instr) : (s.taken c).gates = s.gates := State.withPort_gates ..
@[simp] theorem State.taken_census (s : State) (c : Instr) : (s.taken c).census = s.census := State.withPort_census ..
@[simp] theorem State.taken_watches (s : State) (c : Instr) : (s.taken c).watches = s.watches :=
  State.withPort_watches ..
@[simp] theorem State.taken_evac (s : State) (c : Instr) : (s.taken c).evac = s.evac := State.withPort_evac ..
@[simp] theorem State.taken_clock (s : State) (c : Instr) : (s.taken c).clock = s.clock := State.withPort_clock ..
@[simp] theorem State.taken_free (s : State) (c : Instr) : (s.taken c).free = s.free := State.withPort_free ..
@[simp] theorem State.taken_pending (s : State) (c : Instr) : (s.taken c).pending = s.pending :=
  State.withPort_pending ..
@[simp] theorem State.taken_port (s : State) (c : Instr) : (s.taken c).port = s.port.answered c :=
  State.withPort_port ..

/-- What the handler leaves of the port when it takes a line: everything but the line held and the lines waiting. -/
theorem Port.answered_frame (p : Port) (c : Instr) :
    (p.answered c).rx = p.rx ∧ (p.answered c).dropping = p.dropping ∧ (p.answered c).tx = p.tx
    ∧ (p.answered c).frames = p.frames ∧ (p.answered c).notices = p.notices ∧ (p.answered c).lost = p.lost
    ∧ (p.answered c).mask = p.mask := by
  rcases p.answered_cases c with h | ⟨_, _, _, h⟩ | ⟨_, _, _, _, _, h⟩ <;> rw [h] <;>
    exact ⟨rfl, rfl, rfl, rfl, rfl, rfl, rfl⟩

@[simp] theorem State.reply_map (s : State) (t : Nat) (a : Answer) : (s.reply t a).map = s.map := rfl
@[simp] theorem State.reply_screens (s : State) (t : Nat) (a : Answer) : (s.reply t a).screens = s.screens := rfl
@[simp] theorem State.reply_queue (s : State) (t : Nat) (a : Answer) : (s.reply t a).queue = s.queue := rfl
@[simp] theorem State.reply_units (s : State) (t : Nat) (a : Answer) : (s.reply t a).units = s.units := rfl
@[simp] theorem State.reply_gates (s : State) (t : Nat) (a : Answer) : (s.reply t a).gates = s.gates := rfl
@[simp] theorem State.reply_census (s : State) (t : Nat) (a : Answer) : (s.reply t a).census = s.census := rfl
@[simp] theorem State.reply_watches (s : State) (t : Nat) (a : Answer) : (s.reply t a).watches = s.watches := rfl
@[simp] theorem State.reply_evac (s : State) (t : Nat) (a : Answer) : (s.reply t a).evac = s.evac := rfl
@[simp] theorem State.reply_clock (s : State) (t : Nat) (a : Answer) : (s.reply t a).clock = s.clock := rfl
@[simp] theorem State.reply_free (s : State) (t : Nat) (a : Answer) : (s.reply t a).free = s.free := rfl
@[simp] theorem State.reply_pending (s : State) (t : Nat) (a : Answer) : (s.reply t a).pending = s.pending := rfl
@[simp] theorem State.reply_port (s : State) (t : Nat) (a : Answer) : (s.reply t a).port = s.port.give ⟨t, a⟩ := rfl

end Sys2Proof.Machine
end

