-- ==== Sys2Proof/WellFormed.lean ====
section
/-!
DEFINITION. Well-formed commands: those that a well-formed request line can be, or an event can be. A request's tag has at most 4
digits, its numbers at most 10 digits, its texts are printable and hold no quote, and its fields are those of its row (R164
and the rules that give each request its forms). The meanings are total, and an ill-formed term has one too.
-/

namespace Sys2Proof

open Sys2Proof.Machine

/-! ## Value forms (R164) -/

/-- A tag: 1 to 4 decimal digits. -/
def tagForm (t : Nat) : Bool := t ≤ 9999

/-- A number: 1 to 10 decimal digits. -/
def numForm (n : Nat) : Bool := n < 10000000000

/-- A number field, left out or given. -/
def optNumForm (o : Option Nat) : Bool := o.all numForm

/-- A field of a number or a fixed word, left out or given. -/
def wordNumForm (o : Option (Option Nat)) : Bool := o.all optNumForm

/-- A level: an optional minus sign and 1 to 10 decimal digits. -/
def levelForm (l : Int) : Bool := l.natAbs < 10000000000

/-- A printable character. -/
def printable (c : Code) : Bool := 32 ≤ c.toNat && c.toNat ≤ 126

/-- A quoted text: printable characters with no quote inside. -/
def textForm (t : Text) : Bool := t.all fun c => printable c && c != 34

/-- A day entry. -/
def dayForm : DayEntry → Bool
  | .closed => true
  | .window o c => numForm o && numForm c

/-- A line that can be complete: 1 to 1,024 printable characters (R163). -/
def lineForm (l : Text) : Bool := 1 ≤ l.length && l.length ≤ 1024 && l.all printable

/-! ## Fields -/

def nodeForm (a : NodeArgs) : Bool :=
  a.level.all levelForm && optNumForm a.zone && a.label.all textForm && optNumForm a.remove && optNumForm a.read

def segForm (a : SegArgs) : Bool :=
  optNumForm a.src && optNumForm a.dst && optNumForm a.length && wordNumForm a.zone && optNumForm a.group
    && optNumForm a.trim && optNumForm a.remove && optNumForm a.read

def listingForm (a : ListingArgs) : Bool :=
  a.name.all textForm && optNumForm a.category && a.doors.all (fun l => l.all numForm)
    && a.days.toList.all (fun d => d.all dayForm) && optNumForm a.target && optNumForm a.remove

def screenForm (a : ScreenArgs) : Bool :=
  optNumForm a.point && wordNumForm a.cadence && optNumForm a.language && optNumForm a.idle && optNumForm a.remove
    && optNumForm a.read

def routeForm (a : RouteArgs) : Bool :=
  optNumForm a.screen && optNumForm a.src && optNumForm a.listing && optNumForm a.dst && optNumForm a.category
    && optNumForm a.exit

def gateForm (a : GateArgs) : Bool :=
  wordNumForm a.src && wordNumForm a.dst && optNumForm a.invert && optNumForm a.stuck

def zoneForm (a : ZoneArgs) : Bool :=
  optNumForm a.enable && optNumForm a.busy && optNumForm a.crowded && optNumForm a.margin && optNumForm a.hold

def watchForm (a : WatchArgs) : Bool :=
  numForm a.threshold && optNumForm a.zone && optNumForm a.gate && optNumForm a.listing && optNumForm a.count
    && optNumForm a.chained && optNumForm a.line && optNumForm a.target && optNumForm a.holdOff

def navForm (a : NavArgs) : Bool :=
  optNumForm a.category && optNumForm a.listing && a.text.all textForm && a.level.all levelForm

def cadenceForm (a : CadenceArgs) : Bool := optNumForm a.period && optNumForm a.pages

def maskForm (a : MaskArgs) : Bool :=
  optNumForm a.routeResult && optNumForm a.zoneClass && optNumForm a.gateFault && optNumForm a.gateClear
    && optNumForm a.watch && optNumForm a.hours && optNumForm a.evac && optNumForm a.cadence

/-! ## Which row a request is (log entry 8) -/

/-- The form flags of a put, a removal and a read. -/
def isPut (read remove : Option Nat) : Bool := !flagSet read && !flagSet remove
def isRemoval (read remove : Option Nat) : Bool := !flagSet read && flagSet remove
def isRead (read : Option Nat) : Bool := flagSet read

/-! ## Commands -/

/-- A command is well formed: each check refuses the terms that no line and no event gives. -/
def Instr.wellFormed : Instr → Bool
  | .hardReset => true
  | .lineComplete => true
  | .assemblyTimerExpiry => true
  | .unknownVerb line => lineForm line && (match readLine line with | .request _ => false | _ => true)
  | .status t clear => tagForm t && optNumForm clear
  | .fetch t => tagForm t
  | .mask t a => tagForm t && maskForm a
  | .start t => tagForm t
  | .stop t => tagForm t
  | .mapClear t => tagForm t
  | .nodePut t i a => tagForm t && numForm i && nodeForm a && isPut a.read a.remove
  | .nodeRemove t i a => tagForm t && numForm i && nodeForm a && isRemoval a.read a.remove
  | .nodeRead t i a => tagForm t && numForm i && nodeForm a && isRead a.read
  | .segPut t i a => tagForm t && numForm i && segForm a && isPut a.read a.remove
  | .segRemove t i a => tagForm t && numForm i && segForm a && isRemoval a.read a.remove
  | .segRead t i a => tagForm t && numForm i && segForm a && isRead a.read
  | .segState t i _ => tagForm t && numForm i
  | .segTrim t i x => tagForm t && numForm i && numForm x
  | .liftWait t g w => tagForm t && numForm g && numForm w
  | .liftWaitRead t g => tagForm t && numForm g
  | .listingPut t i a => tagForm t && numForm i && listingForm a && !flagSet a.remove && weekWhole a.days
  | .listingRemove t i a => tagForm t && numForm i && listingForm a && flagSet a.remove
  | .override t l _ m => tagForm t && numForm l && optNumForm m
  | .search t x c n => tagForm t && textForm x && optNumForm c && numForm n
  | .lookup t l => tagForm t && numForm l
  | .demand t l c => tagForm t && optNumForm l && optNumForm c
  | .screenDeclare t n a => tagForm t && numForm n && screenForm a && isPut a.read a.remove
  | .screenUndeclare t n a => tagForm t && numForm n && screenForm a && isRemoval a.read a.remove
  | .screenRead t n a => tagForm t && numForm n && screenForm a && isRead a.read
  | .paceWrite t _ _ v => tagForm t && numForm v
  | .paceRead t _ _ => tagForm t
  | .multWrite t _ _ v => tagForm t && numForm v
  | .multRead t _ _ => tagForm t
  | .route t a => tagForm t && routeForm a
  | .routeCancel t n => tagForm t && numForm n
  | .completionEvent _ => true
  | .beamEvent _ _ => true
  | .pairEvent _ => true
  | .stuckTimerExpiry _ _ => true
  | .recoveryTimerExpiry _ => true
  | .gate t g a => tagForm t && numForm g && gateForm a
  | .gateRead t g c => tagForm t && optNumForm g && optNumForm c
  | .zone t z a => tagForm t && numForm z && zoneForm a
  | .censusPeriod t p => tagForm t && numForm p
  | .censusPeriodRead t => tagForm t
  | .censusTick => true
  | .zoneClose t z => tagForm t && numForm z
  | .zoneOpen t z => tagForm t && numForm z
  | .occupancy t z n => tagForm t && numForm z && numForm n
  | .censusZero t => tagForm t
  | .historyResume t => tagForm t
  | .history t n => tagForm t && optNumForm n
  | .zoneRead t z => tagForm t && optNumForm z
  | .watch t w a => tagForm t && numForm w && watchForm a
  | .watchArm t w => tagForm t && numForm w
  | .watchOff t w => tagForm t && numForm w
  | .watchRead t w => tagForm t && optNumForm w
  | .holdOffExpiry _ => true
  | .pulseTimerExpiry _ => true
  | .nav t n a => tagForm t && numForm n && navForm a
  | .back t n => tagForm t && numForm n
  | .backRestore t n => tagForm t && numForm n
  | .home t n => tagForm t && numForm n
  | .prefs t n l _ => tagForm t && numForm n && optNumForm l
  | .tap t n => tagForm t && numForm n
  | .screenGet t n => tagForm t && numForm n
  | .idleTimerExpiry _ => true
  | .evacInRise => true
  | .evacInFall => true
  | .evac t => tagForm t
  | .evacEnd t => tagForm t
  | .timebaseSecond => true
  | .cadencePeriodExpiry _ => true
  | .clock t d m x => tagForm t && numForm d && numForm m && optNumForm x
  | .clockRead t => tagForm t
  | .cadence t k a => tagForm t && numForm k && cadenceForm a && a != {}
  | .cadenceRead t k => tagForm t && numForm k
  | .cadenceRun t k r => tagForm t && numForm k && optNumForm r
  | .cadenceHalt t k => tagForm t && numForm k
  | .characterReceived c d => !(c == 10 && !d)
  | .beamLineChange _ _ _ => true
  | .evacInLineChange _ => true
  | .replyTransmitted => true

end Sys2Proof
end

