-- ==== Sys2Proof/Tests/Slice0.lean ====
section
/-!
SUPPORT. Tests: the smoke tests of WellFormed, small tests from the manual's worked values (each names its section), and for each
statement with premises a state and operands that meet them.
-/

namespace Sys2Proof.Tests

open Sys2Proof Sys2Proof.Machine Sys2Proof.Safety

/-! ## States to test on -/

/-- The state after a command. -/
def after (c : Instr) (s : State) : State :=
  match exec c s with
  | .next t => t
  | .fault _ => s
  | .refused _ => s

/-- The answer of the newest reply. -/
def answer (c : Instr) (s : State) : Option Answer := (after c s).port.tx.getLast?.map Reply.answer

/-- The status word of the newest reply. -/
def status (c : Instr) (s : State) : Option Status := (answer c s).map Answer.status

/-- The field of a key in the newest reply. -/
def field (c : Instr) (s : State) (k : Key) : Option Val :=
  (answer c s).bind fun a => (a.fields.find? fun f => f.1 == k).map Prod.snd

/-- A map of four nodes, three segments and one listing, at rest in an engine mode. -/
def venue (mode : EngineMode) : MapStore :=
  { MapStore.reset with
    mode := mode
    nodes := [(0, ⟨.screenPoint, 0, some 1, none⟩), (1, ⟨.exit, 0, none, none⟩), (2, ⟨.door, 1, some 2, none⟩),
              (3, ⟨.junction, 0, none, none⟩)]
    segs := [(0, ⟨0, 3, 325, .walk, some 1, none, .opened, 0⟩), (1, ⟨3, 1, 50, .walk, none, none, .opened, 0⟩),
             (2, ⟨3, 2, 55, .lift, none, some 2, .opened, 0⟩)]
    listings := [(5, ⟨ascii "Cafe", 3, [2], none, .absent, 4⟩)]
    nameIndex := [(foldName (ascii "Cafe"), 5)] }

/-- Screen 0 at node 0, its session in a state. -/
def screen0 (st : SessionState) (pending : Option Nat) (idle : Option IdleTimer) : Screen :=
  { decl := { point := 0, cadence := some 1, language := 2, idleTimeout := 90 }
    session := { state := st, language := 2, profile := .standard, stack := [], pending := pending, shown := none
                 evac := none, idle := idle } }

/-- The map loaded and not in service, with screen 0 declared. -/
def loaded : State :=
  { State.reset with map := venue .load, screens := State.reset.screens.set 0 (some (screen0 .dormant none none)) }

/-- In service with nothing asked for. -/
def calm : State :=
  { State.reset with map := venue .service, screens := State.reset.screens.set 0 (some (screen0 .idle none none)) }

/-- The entry of screen 0 for listing 5. -/
def entry7 : Entry := { id := 7, origin := .screen 0, dest := .listing 5, profile := .standard, cls := .normal }

/-- An attempt of an entry, its view empty. -/
def attempt7 (number : Nat) (changed : Bool) : Attempt :=
  { entry := entry7, number := number, changed := changed, origin := some 0
    resolution := .targets [⟨2, some 5, false, false⟩] {}, view := [] }

/-- In service, unit A working the entry of screen 0, a TAP of that screen waiting. -/
def live : State :=
  { calm with
    screens := State.reset.screens.set 0 (some (screen0 .routePending (some 7) (some ⟨90, 3⟩)))
    queue := { entries := [], nextId := 8, outstanding := 1 }
    units := { a := some (attempt7 1 false), b := none }
    pending := [.tap 1 0] }

/-- In evacuation, screen 0 in ALERT and its sweep done. -/
def evacuating : State :=
  { calm with
    screens := State.reset.screens.set 0 (some (screen0 .alert none none))
    evac := { State.reset.evac with state := .active, ack := true } }

/-- One gate changed. -/
def withGate (s : State) (g : Fin 32) (x : Gate) : State := { s with gates := s.gates.set g x }

/-- One zone changed. -/
def withZone (s : State) (z : Fin 32) (x : Zone) : State :=
  { s with census := { s.census with zones := s.census.zones.set z x } }

/-- One watch changed. -/
def withWatch (s : State) (w : Fin 8) (x : Watch) : State :=
  { s with watches := { s.watches with watches := s.watches.watches.set w x } }

/-- One cadence timer changed. -/
def withTimer (s : State) (k : Fin 8) (x : CadenceTimer) : State :=
  { s with clock := { s.clock with timers := s.clock.timers.set k x } }

/-! ## WellFormed: an ill-formed term for each check -/

theorem test_wf_tag : (Instr.fetch 10000).wellFormed = false ∧ (Instr.fetch 9999).wellFormed = true := by decide
theorem test_wf_number : (Instr.lookup 1 10000000000).wellFormed = false := by decide
theorem test_wf_optional_number : (Instr.zoneRead 1 (some 10000000000)).wellFormed = false := by decide
theorem test_wf_number_or_word :
    (Instr.gate 1 0 { src := some (some 10000000000) }).wellFormed = false
    ∧ (Instr.gate 1 0 { src := some none }).wellFormed = true := by decide
theorem test_wf_level : (Instr.nav 1 0 { page := .levelMap, level := some (-10000000000) }).wellFormed = false := by decide
theorem test_wf_text : (Instr.search 1 [34] none 0).wellFormed = false ∧ (Instr.search 1 [10] none 0).wellFormed = false := by
  decide
theorem test_wf_day :
    (Instr.listingPut 1 0 { days := Vector.replicate 7 (some (.window 10000000000 0)) }).wellFormed = false := by decide
theorem test_wf_week :
    (Instr.listingPut 1 0 { days := (Vector.replicate 7 none).set 0 (some .closed) }).wellFormed = false := by decide
theorem test_wf_line : (Instr.unknownVerb []).wellFormed = false ∧ (Instr.unknownVerb [7]).wellFormed = false := by decide
theorem test_wf_request_is_no_bad_line : (Instr.unknownVerb (ascii "FETCH 7")).wellFormed = false := by decide
theorem test_wf_put : (Instr.nodePut 1 0 { remove := some 1 }).wellFormed = false
    ∧ (Instr.segPut 1 0 { read := some 1 }).wellFormed = false
    ∧ (Instr.screenDeclare 1 0 { remove := some 1 }).wellFormed = false
    ∧ (Instr.listingPut 1 0 { remove := some 1 }).wellFormed = false := by decide
theorem test_wf_removal : (Instr.nodeRemove 1 0 {}).wellFormed = false ∧ (Instr.segRemove 1 0 {}).wellFormed = false
    ∧ (Instr.screenUndeclare 1 0 {}).wellFormed = false ∧ (Instr.listingRemove 1 0 {}).wellFormed = false := by decide
theorem test_wf_read : (Instr.nodeRead 1 0 {}).wellFormed = false ∧ (Instr.segRead 1 0 {}).wellFormed = false
    ∧ (Instr.screenRead 1 0 {}).wellFormed = false := by decide
theorem test_wf_fields :
    (Instr.nodePut 1 0 { zone := some 10000000000 }).wellFormed = false
    ∧ (Instr.segPut 1 0 { trim := some 10000000000 }).wellFormed = false
    ∧ (Instr.listingPut 1 0 { category := some 10000000000 }).wellFormed = false
    ∧ (Instr.screenDeclare 1 0 { idle := some 10000000000 }).wellFormed = false
    ∧ (Instr.route 1 { exit := some 10000000000 }).wellFormed = false := by decide
theorem test_wf_more_fields :
    (Instr.zone 1 0 { hold := some 10000000000 }).wellFormed = false
    ∧ (Instr.watch 1 0 { subject := .failures, cmp := .below, threshold := 10000000000, action := .report }).wellFormed
        = false
    ∧ (Instr.cadence 1 0 { pages := some 10000000000 }).wellFormed = false
    ∧ (Instr.mask 1 { evac := some 10000000000 }).wellFormed = false := by decide
theorem test_wf_cadence_configures : (Instr.cadence 1 0 {}).wellFormed = false := by decide
theorem test_wf_lf_is_the_end_of_a_line : (Instr.characterReceived 10 false).wellFormed = false
    ∧ (Instr.characterReceived 10 true).wellFormed = true := by decide

/-! ## The words of the table: no row spells a command -/

theorem test_no_word_is_a_command : decodeTableWord 16 5 = none := rfl

/-! ## Lines (section 11.2) -/

theorem test_line_route : readLine (ascii "ROUTE 77 SCREEN=7 LISTING=341 PROFILE=QUICK")
    = .request (.route 77 { screen := some 7, listing := some 341, profile := some .quick }) := by decide
theorem test_line_without_tag : readLine (ascii "ROUTE SCREEN=7") = .noTag := by decide
theorem test_line_unknown_verb : readLine (ascii "FLY 3") = .unknownVerb 3 := by decide
theorem test_line_bad_field : readLine (ascii "ROUTE 3 SCREEN=X") = .badField 3 := by decide
theorem test_line_quoted : readLine (ascii "SEARCH 4 PREFIX=\"ca\"") = .request (.search 4 (ascii "ca") none 0) := by
  decide
theorem test_line_completes : (after .lineComplete { calm with port := { calm.port with
    rx := (ascii "FETCH 7").map (⟨·, false⟩) ++ [⟨13, false⟩] } }).port.hand = some (ascii "FETCH 7") := by decide
theorem test_damaged_line_is_counted : (after .lineComplete { calm with port := { calm.port with
    rx := [⟨65, false⟩, ⟨66, true⟩] } }).port.frames = 1 := by decide
theorem test_assembly_expires : (after .assemblyTimerExpiry { calm with port := { calm.port with
    rx := [⟨65, false⟩] } }).port.dropping = true := by decide
theorem test_character_joins : (after (.characterReceived 65 false) calm).port.rx = [⟨65, false⟩] := by decide
theorem test_character_lf_ends : (after (.characterReceived 10 false) { calm with port := { calm.port with
    rx := [⟨65, false⟩], dropping := true } }).port.dropping = false := by decide
theorem test_unknown_verb_answers : status (.unknownVerb (ascii "FLY 3")) calm = some .unknownVerb := by decide
theorem test_fifth_waiting_line_is_busy : (after .lineComplete { calm with port := { calm.port with
    rx := (ascii "FETCH 7").map (⟨·, false⟩), hand := some [], input := [[], [], [], []] } }).port.tx
    = [⟨7, .no .busy⟩] := by decide
theorem test_reply_leaves : (after .replyTransmitted { calm with port := { calm.port with
    tx := [⟨1, .ok []⟩, ⟨2, .ok []⟩] } }).port.tx = [⟨2, .ok []⟩] := by decide
theorem test_step_answers_the_line : (match step { calm with port := { calm.port with hand := some (ascii "CLOCK-READ 9") } }
    with | .next t => t.port.tx | _ => []) = [⟨9, .ok [(.clock, .word .isUnset)]⟩] := by decide

/-! ## Segment cost (sections 2.7, 2.8 and 2.8.1) -/

theorem test_base_and_scaled : baseCost 325 77 = 251 ∧ scaledCost 251 24 = 377 ∧ baseCost 142 125 = 178
    ∧ scaledCost 178 24 = 267 := by decide
theorem test_cost_at_the_limits : baseCost 4000 255 = 10200 ∧ scaledCost 10200 255 = 162563 ∧ scaledCost 1 255 = 16 := by
  decide
theorem test_eta : etaOf 856 = 2 ∧ etaOf 1285 = 3 ∧ etaOf 999999 = 1667 ∧ etaOf 600 = 1 ∧ etaOf 601 = 2 := by decide
theorem test_segment_cost : Seg.cost (withZone calm 1 { Zone.reset with cls := .busy }) .standard
    ⟨0, 3, 325, .walk, some 1, none, .opened, 0⟩ = 377 := by decide
theorem test_lift_cost : Seg.cost { calm with map := { calm.map with liftWaits := calm.map.liftWaits.set 2 45 } } .standard
    ⟨3, 2, 55, .lift, none, some 2, .opened, 0⟩ = 472 := by decide
theorem test_pace_write : field (.paceWrite 1 .quick (some .escalator) 70) calm .gen = some (.num 1) := by decide
theorem test_pace_held : field (.paceWrite 1 .evacuation (some .lift) 40) calm .value = some (.num 0)
    ∧ field (.paceWrite 1 .evacuation (some .lift) 40) calm .gen = some (.num 0) := by decide
theorem test_mult_clamped : field (.multWrite 1 .standard (some .clear) 4) calm .clamped = some (.num 1)
    ∧ status (.multWrite 1 .standard (some .busy) 300) calm = some .outOfRange := by decide
theorem test_pace_without_kind : status (.paceWrite 1 .stepFree none 80) calm = some .conflict := by decide

/-! ## The map store (chapter 1) -/

theorem test_node_put : (after (.nodePut 1 9 { kind := some .door, level := some (-4) }) loaded).map.nodes.get 9
    = some ⟨.door, -4, none, none⟩ := by decide
theorem test_node_put_in_service : status (.nodePut 1 9 { kind := some .door, level := some 0 }) calm = some .wrongMode := by
  decide
theorem test_seg_takes_the_node_zone :
    let a : SegArgs := { src := some 0, dst := some 1, length := some 10, kind := some .walk }
    ((after (.segPut 1 9 a) loaded).map.segs.get 9).bind Seg.zone = some 1 := by decide
theorem test_seg_state_again : (after (.segState 1 0 .opened) calm).map.generation = 0
    ∧ (after (.segState 1 0 .closed) calm).map.generation = 1 := by decide
theorem test_seg_trim_bumps_always : (after (.segTrim 1 0 0) calm).map.generation = 1 := by decide
theorem test_lift_wait : status (.liftWait 1 2 256) calm = some .outOfRange
    ∧ field (.liftWaitRead 1 2) (after (.liftWait 1 2 255) calm) .wait = some (.num 255) := by decide
theorem test_fold_name : foldName (ascii "CaFe 9") = ascii "cafe 9" := by decide
theorem test_search : field (.search 1 (ascii "CAF") (some 3) 0) calm .found = some (.nums [5]) := by decide
theorem test_override_moved : status (.override 1 5 .relocated (some 6)) calm = some .notFound
    ∧ status (.override 1 5 .vacant none) calm = some .ok := by decide
theorem test_demand_clears : field (.demand 1 (some 5) (some 1)) calm .count = some (.num 4)
    ∧ (after (.demand 1 (some 5) (some 1)) calm).demandOf 5 = 0 := by decide
theorem test_screen_clamps : field (.screenDeclare 1 3 { point := some 0, idle := some 10 }) loaded .clamped
    = some (.num 1) := by decide
theorem test_start : (after (.start 1) loaded).map.mode = .service ∧ status (.start 1) calm = some .wrongMode := by decide
theorem test_start_without_exit : field (.start 1) State.reset .check = some (.word .noExit) := by decide
theorem test_stop : (after (.stop 1) live).map.mode = .load ∧ (after (.stop 1) live).queue.outstanding = 1 := by decide
theorem test_map_clear : (after (.mapClear 1) loaded).screens[0] = none := by decide
theorem test_lookup : field (.lookup 1 5) calm .state = some (.word .opened) := by decide

/-! ## Routes (chapters 3 and 4) -/

theorem test_route_goes_to_a_unit :
    ((after (.route 1 { screen := some 0, exit := some 1 }) calm).units.a.map fun a => a.entry.dest) = some .exit := by
  decide
theorem test_route_in_evacuation : status (.route 1 { src := some 0, exit := some 1 }) evacuating = some .evacActive := by
  decide
theorem test_cancel_in_a_unit : field (.routeCancel 1 7) live .was = some (.word .a) := by decide
theorem test_completion_delivers :
    ((after (.completionEvent .a) (after (.route 1 { src := some 0, exit := some 1 }) calm)).port.notices.map fun n =>
      match n with | .routeResult r => (r.outcome, r.cost, r.arrival) | _ => (.noExit, 0, none))
    = [(.delivered, 290, some 1)] := by decide
theorem test_completion_retries :
    ((after (.completionEvent .a) { live with units := { a := some (attempt7 2 true), b := none } }).units.a.map
      Attempt.number) = some 3 := by decide
theorem test_fetch_lowers_the_count :
    (after (.fetch 1) (after (.routeCancel 1 7) live)).queue.outstanding = 0 := by decide

/-! ## Gates (chapter 5) -/

theorem test_passage_states : nextState .enterA (true, true) = .midA ∧ nextState .midA (false, true) = .leaveA
    ∧ crossingAt .leaveA (false, false) = some .inbound ∧ nextState .midUnknown (true, false) = .leaveB := by decide
theorem test_beam_event : (after (.beamEvent 3 .a) (withGate calm 3 { Gate.reset with
    mode := .twoWay, a := ⟨true, false, none⟩ })).gates[3].state = .enterA := by decide
theorem test_pair_event : (after (.pairEvent 3) (withGate calm 3 { Gate.reset with
    mode := .oneWay, a := ⟨true, false, none⟩, b := ⟨true, false, none⟩ })).gates[3].state = .midUnknown := by decide
theorem test_clamped_crossing : (Zone.leave Zone.reset).estimated = true ∧ (Zone.leave Zone.reset).occupancy = 0 := by decide
theorem test_stuck : (after (.stuckTimerExpiry 3 .a) (withGate calm 3 { Gate.reset with
    mode := .pulse, a := ⟨true, true, some 30⟩ })).gates[3].fault = true := by decide
theorem test_recovery : (after (.recoveryTimerExpiry 3) (withGate calm 3 { Gate.reset with
    mode := .pulse, state := .fault, fault := true, recovery := true })).gates[3].state = .clear := by decide
theorem test_gate_one_zone : status (.gate 1 3 { src := some (some 4), dst := some (some 4) }) calm = some .conflict := by
  decide
theorem test_gate_read : field (.gateRead 1 (some 3) none) calm .mode = some (.word .off) := by decide
theorem test_beam_line : (after (.beamLineChange 3 .b true) calm).gates[3].b.line = true := by decide

/-! ## Zones (chapter 6) -/

theorem test_zone_margin_clamps : field (.zone 1 0 { busy := some 5, crowded := some 9 }) calm .margin = some (.num 4)
    ∧ field (.zone 1 0 { busy := some 5, crowded := some 9 }) calm .clamped = some (.num 1) := by decide
theorem test_rise_of_two_steps : (Zone.classify { Zone.reset with enable := .enabled, occupancy := 200 }).cls = .crowded := by
  decide
theorem test_release_hold : (Zone.classify { Zone.reset with enable := .enabled, cls := .busy, below := 2 }).cls = .clear
    ∧ (Zone.classify { Zone.reset with enable := .enabled, cls := .busy, below := 1 }).below = 2 := by decide
theorem test_tick_counts : (after .censusTick calm).census.tick = 1 := by decide
theorem test_period_clamps : field (.censusPeriod 1 0) calm .period = some (.num 1)
    ∧ field (.censusPeriodRead 1) calm .period = some (.num 5) := by decide
theorem test_closing_bumps : field (.zoneClose 1 2) calm .gen = some (.num 1)
    ∧ field (.zoneOpen 1 2) calm .gen = some (.num 0) := by decide
theorem test_occupancy_clamps : field (.occupancy 1 2 10000) calm .occ = some (.num 9999) := by decide
theorem test_census_zero : field (.censusZero 1) (withZone calm 2 { Zone.reset with cls := .busy }) .changed
    = some (.num 1) := by decide
theorem test_history : field (.history 1 (some 9)) calm .restart = some (.num 1)
    ∧ field (.historyResume 1) calm .frozen = some (.num 0) := by decide
theorem test_zone_read : field (.zoneRead 1 (some 2)) calm .busy = some (.num 100) := by decide

/-! ## Watches (chapter 7) -/

/-- A watch that fires at its next evaluation. -/
def readyWatch : Watch :=
  { Watch.reset with configured := true, subject := some .failures, action := some .report, state := .armed }

theorem test_watch_fires : ((withWatch calm 2 readyWatch).watchTurn 2).watches.watches[2].state = .holdOff := by decide
theorem test_watch_request : field (.watch 1 7 { subject := .failures, cmp := .below, threshold := 2, action := .report })
    calm .state = some (.word .disabled) := by decide
theorem test_watch_7_cannot_stage :
    status (.watch 1 7 { subject := .failures, cmp := .below, threshold := 2, action := .stage }) calm = some .conflict := by
  decide
theorem test_watch_arm : status (.watchArm 1 2) calm = some .notFound
    ∧ field (.watchArm 1 2) (withWatch calm 2 { readyWatch with chained := true }) .state = some (.word .waiting) := by
  decide
theorem test_watch_off : field (.watchOff 1 2) calm .state = some (.word .disabled) := by decide
theorem test_watch_read : field (.watchRead 1 (some 2)) calm .alert = some (.nums [0, 0, 0, 0]) := by decide
theorem test_hold_off_rearms : (after (.holdOffExpiry 2) (withWatch calm 2 { readyWatch with
    state := .holdOff, occurred := true })).watches.watches[2].state = .armed := by decide
theorem test_pulse_ends : (after (.pulseTimerExpiry 1) { calm with watches := { calm.watches with
    alerts := calm.watches.alerts.set 1 (some 2) } }).alertHigh 1 = false := by decide

/-! ## Sessions (chapter 8) -/

theorem test_nav : field (.nav 1 0 { page := .category, category := some 3 }) calm .top = some (.word .category) := by decide
theorem test_nav_withdraws : field (.nav 1 0 { page := .category, category := some 3 }) live .withdrawn
    = some (.num 7) := by decide
theorem test_back_in_idle : field (.back 1 0) calm .state = some (.word .idle) := by decide
theorem test_back_restore : field (.backRestore 1 0) calm .lang = some (.num 2) := by decide
theorem test_home : field (.home 1 0) calm .state = some (.word .active) := by decide
theorem test_prefs : field (.prefs 1 0 (some 5) none) calm .lang = some (.num 5)
    ∧ status (.prefs 1 0 none none) calm = some .conflict := by decide
theorem test_tap_in_alert : status (.tap 1 0) evacuating = some .evacActive := by decide
theorem test_screen_get : field (.screenGet 1 0) live .pending = some (.num 7) := by decide
theorem test_idle_expiry : ((after (.idleTimerExpiry 0) live).screens[0].map fun c => c.session.state) = some .idle := by
  decide

/-! ## Evacuation (chapter 9) -/

theorem test_evac_enters : (after (.evac 1) calm).evac.state = .active ∧ (after (.evac 1) calm).map.generation = 1 := by
  decide
theorem test_evac_in_load : (after (.evac 1) loaded).evac.state = .pending := by decide
theorem test_evac_rise : (after .evacInRise (after (.evacInLineChange true) calm)).evac.ack = true := by decide
theorem test_evac_fall : (after .evacInFall { evacuating with evac := { evacuating.evac with
    debounced := true } }).evac.state = .active := by decide
theorem test_evac_end : (after (.evacEnd 1) evacuating).evac.ack = false ∧ status (.evacEnd 1) calm = some .notActive := by
  decide

/-! ## Clock and cadence (chapter 10) -/

theorem test_open_past_midnight :
    openAt (Vector.replicate 7 (.window 1080 120)) 5 119 = true
    ∧ openAt (Vector.replicate 7 (.window 1080 120)) 5 120 = false := by decide
theorem test_week_wraps : (DayTime.next ⟨6, 1439, 59⟩) = ⟨0, 0, 0⟩ := by decide
theorem test_clock : field (.clock 1 6 1439 none) calm .changed = some (.num 0)
    ∧ status (.clock 1 7 0 none) calm = some .outOfRange := by decide
theorem test_clock_read : field (.clockRead 1) calm .clock = some (.word .isUnset) := by decide
theorem test_second : (after .timebaseSecond (withTimer calm 2 { CadenceTimer.reset with state := .run
    })).clock.timers[2].count = 1 := by decide
theorem test_period_expires : (after (.cadencePeriodExpiry 2) (withTimer calm 2 { CadenceTimer.reset with
    pages := 3, state := .run, due := true })).clock.timers[2].page = 1 := by decide
theorem test_cadence : field (.cadence 1 2 { period := some 601 }) calm .period = some (.num 600)
    ∧ field (.cadenceRead 1 2) calm .period = some (.num 10) := by decide
theorem test_cadence_run : field (.cadenceRun 1 2 none) loaded .state = some (.word .halt)
    ∧ field (.cadenceRun 1 2 none) calm .state = some (.word .run) := by decide
theorem test_cadence_halt : field (.cadenceHalt 1 2) calm .run = some (.word .halt) := by decide

/-! ## The host port (chapter 11) -/

theorem test_status : field (.status 1 none) live .outstanding = some (.num 1) := by decide
theorem test_mask_keeps_results : status (.mask 1 { routeResult := some 0 }) calm = some .conflict := by decide
theorem test_hard_reset_keeps_lines :
    (after .hardReset (after (.beamLineChange 3 .b true) calm)).gates[3].b = ⟨true, false, none⟩ := by decide

/-! ## Witnesses: a state and operands that meet the premises of each statement that has some -/

/-- A line in the handler's hands, no command waiting. -/
def holding (line : Text) : State := { calm with port := { calm.port with hand := some line } }

theorem witness_StepRunsTheFrontCommand : live.pending = .tap 1 0 :: [] := rfl
theorem witness_StepAnswersTheHeldLine :
    (holding (ascii "FETCH 7")).pending = [] ∧ (holding (ascii "FETCH 7")).port.hand = some (ascii "FETCH 7")
    ∧ readLine (ascii "FETCH 7") = .request (.fetch 7) ∧ (∀ c, readLine (ascii "FLY 3") ≠ .request c)
    ∧ calm.pending = [] ∧ calm.port.hand = none := by
  refine ⟨rfl, rfl, by decide, ?_, rfl, rfl⟩
  intro c h
  have : readLine (ascii "FLY 3") = .unknownVerb 3 := by decide
  rw [this] at h
  cases h

theorem live_steps : ∃ t, step live = .next t := ⟨_, rfl⟩
theorem live_modes : ModesAgree live := by unfold ModesAgree; decide
theorem live_costs : CostTablesKept live :=
  ⟨by decide, fun p k => by cases p <;> cases k <;> decide, fun p c => by cases p <;> cases c <;> decide⟩

theorem witness_EveryStepKeepsTheLimits : LimitsKept live ∧ ∃ t, step live = .next t :=
  ⟨by unfold LimitsKept OutcomesCounted; decide, live_steps⟩
theorem witness_EveryStepKeepsRouteIdsDistinct : (LimitsKept live ∧ IdsDistinct live) ∧ ∃ t, step live = .next t :=
  ⟨⟨by unfold LimitsKept OutcomesCounted; decide, by unfold IdsDistinct; decide⟩, live_steps⟩
theorem witness_EveryStepLeavesTheArbiterQuiet : (ModesAgree live ∧ Quiet live) ∧ ∃ t, step live = .next t :=
  ⟨⟨live_modes, rfl⟩, live_steps⟩
theorem witness_EveryStepKeepsValuesInRange : (CountersInRange live ∧ CostTablesKept live) ∧ ∃ t, step live = .next t :=
  ⟨⟨by unfold CountersInRange; decide, live_costs⟩, live_steps⟩
theorem witness_EveryStepKeepsTheNameIndex : (TablesSorted live ∧ IndexAgrees live) ∧ ∃ t, step live = .next t := by
  refine ⟨⟨by unfold TablesSorted; decide, by decide, by unfold indexSorted; decide, ?_⟩, live_steps⟩
  rintro ⟨name, i⟩
  simp [live, calm, venue, Table.get]
  constructor
  · rintro ⟨rfl, rfl⟩; simp
  · rintro ⟨rfl, ⟨rfl, rfl⟩, rfl⟩; simp
theorem witness_EveryStepKeepsTheMapValid : MapValid live ∧ ∃ t, step live = .next t :=
  ⟨⟨by decide, by decide, fun _ => by decide⟩, live_steps⟩
theorem witness_EveryStepKeepsGatesSound : GatesSound live ∧ ∃ t, step live = .next t :=
  ⟨by unfold GatesSound GateSound; decide, live_steps⟩
theorem witness_EveryStepKeepsTheCensusSound : CensusSound live ∧ ∃ t, step live = .next t :=
  ⟨by unfold CensusSound ZoneSound RecordSound; decide, live_steps⟩
theorem witness_EveryStepKeepsWatchesSound : WatchesSound live ∧ ∃ t, step live = .next t :=
  ⟨by unfold WatchesSound WatchSound; decide, live_steps⟩
theorem witness_EveryStepKeepsModesAgreeing : (ModesAgree live ∧ ClassesAgree live) ∧ ∃ t, step live = .next t :=
  ⟨⟨live_modes, by unfold ClassesAgree; decide⟩, live_steps⟩
theorem witness_EveryStepKeepsTimersSound : (TimersSound live ∧ ClockSound live) ∧ ∃ t, step live = .next t :=
  ⟨⟨by unfold TimersSound TimerSound; decide, by intro c h; cases h⟩, live_steps⟩
theorem live_sessions : SessionsAgree live := by
  refine ⟨live_modes, fun n c h => ?_⟩
  have rest : ∀ n : Fin 48, n ≠ 0 → live.screens[n] = none := by decide
  by_cases hn : n = 0
  · subst hn
    have first : live.screens[(0 : Fin 48)] = some (screen0 .routePending (some 7) (some ⟨90, 3⟩)) := by decide
    rw [first] at h
    cases h
    unfold SessionSound
    decide
  · rw [rest n hn] at h
    cases h
theorem witness_EveryStepKeepsSessionsSound : SessionsAgree live ∧ ∃ t, step live = .next t := ⟨live_sessions, live_steps⟩
theorem witness_EveryStepKeepsPendingRoutesMatched : PendingAgrees live ∧ ∃ t, step live = .next t :=
  ⟨⟨live_sessions, by unfold AttemptsSearch; decide, by decide⟩, live_steps⟩
theorem witness_EveryStepKeepsThePortSound : PortSound live ∧ ∃ t, step live = .next t :=
  ⟨by unfold PortSound; decide, live_steps⟩

theorem witness_NodePutDefinesTheNode :
    ∃ (s : State) (i : Nat) (a : NodeArgs) (k : NodeKind) (l : Int),
      s.map.mode = .load ∧ i ≤ 2047 ∧ a.kind = some k ∧ a.level = some l ∧ -4 ≤ l ∧ l ≤ 11 ∧ (∀ z ∈ a.zone, z ≤ 31)
      ∧ (∀ t ∈ a.label, 1 ≤ t.length ∧ t.length ≤ 32) ∧ (∀ x ∈ a.remove, x = 0) ∧ (∀ x ∈ a.read, x = 0) :=
  ⟨loaded, 2047, { kind := some .exit, level := some (-4), zone := some 31, label := some (ascii "X"), read := some 0 },
    .exit, -4, by decide⟩
theorem witness_SegPutDefinesTheSegment :
    ∃ (s : State) (i : Nat) (a : SegArgs) (x y len : Nat) (k : SegKind),
      s.map.mode = .load ∧ i ≤ 6143 ∧ a.src = some x ∧ a.dst = some y ∧ x ≤ 2047 ∧ y ≤ 2047 ∧ x ≠ y
      ∧ a.length = some len ∧ 1 ≤ len ∧ len ≤ 4000 ∧ a.kind = some k ∧ (∀ z, a.zone = some (some z) → z ≤ 31)
      ∧ (∀ g ∈ a.group, g ≤ 15 ∧ k = .lift) ∧ (∀ t ∈ a.trim, t ≤ 255) ∧ (∀ v ∈ a.remove, v = 0)
      ∧ (∀ v ∈ a.read, v = 0) :=
  ⟨loaded, 6143, { src := some 2047, dst := some 0, length := some 4000, kind := some .lift, zone := some (some 31)
                   group := some 15, trim := some 255 }, 2047, 0, 4000, .lift, by simp [loaded, venue]⟩
theorem witness_ListingPutDefinesTheListing :
    ∃ (s : State) (i : Nat) (a : ListingArgs) (name : Text) (cat : Nat) (doors : List Nat)
      (week : Option (Vector DayEntry 7)) (o : Override),
      s.map.mode = .load ∧ i ≤ 1023 ∧ a.name = some name ∧ 1 ≤ name.length ∧ name.length ≤ 32 ∧ a.category = some cat
      ∧ cat ≤ 63 ∧ a.doors = some doors ∧ 1 ≤ doors.length ∧ doors.length ≤ 4 ∧ doors.Nodup ∧ (∀ d ∈ doors, d ≤ 2047)
      ∧ (∀ n : Fin 7, a.days[n] = week.map fun w => w[n]) ∧ (∀ w ∈ week, ∀ n : Fin 7, dayOk w[n] = true)
      ∧ overrideOf? (a.override.getD .absent) a.target = some o ∧ (∀ m ∈ a.target, m ≤ 1023)
      ∧ (∀ v ∈ a.remove, v = 0) :=
  ⟨loaded, 1023, { name := some [65], category := some 63, doors := some [2047, 0]
                   days := Vector.replicate 7 (some (.window 0 1439)), override := some .relocated, target := some 5 },
    [65], 63, [2047, 0], some (Vector.replicate 7 (.window 0 1439)), .relocated 5, by decide⟩
theorem loaded_index : IndexAgrees loaded := by
  refine ⟨by decide, by unfold indexSorted; decide, ?_⟩
  rintro ⟨name, i⟩
  simp [loaded, venue, Table.get]
  constructor
  · rintro ⟨rfl, rfl⟩; simp
  · rintro ⟨rfl, ⟨rfl, rfl⟩, rfl⟩; simp
theorem witness_ListingPutDefinesTheListing_index : loaded.map.mode = .load ∧ IndexAgrees loaded := ⟨rfl, loaded_index⟩
theorem witness_ScreenDeclareMakesTheSession :
    ∃ (s : State) (a : ScreenArgs) (p : Nat),
      s.map.mode = .load ∧ a.point = some p ∧ p ≤ 2047 ∧ (∀ t, a.cadence = some (some t) → t ≤ 7)
      ∧ (∀ l ∈ a.language, l ≤ 7) ∧ (∀ x ∈ a.remove, x = 0) ∧ (∀ x ∈ a.read, x = 0) :=
  ⟨loaded, { point := some 2047, cadence := some (some 7), language := some 7, idle := some 601 }, 2047,
    by simp [loaded, venue]⟩
theorem witness_RemovalsUndefineTheRecord :
    loaded.map.mode = .load ∧ (loaded.map.nodes.get 3).isSome = true ∧ (loaded.map.segs.get 2).isSome = true
    ∧ (loaded.map.listings.get 5).isSome = true ∧ loaded.screens[0].isSome = true := by decide
theorem witness_RecordReadsReportWhatIsStored :
    (calm.map.nodes.get 3).isSome = true ∧ (calm.map.segs.get 2).isSome = true ∧ calm.screens[0].isSome = true := by
  decide
theorem witness_BumpMarksUnitsAndScreens :
    loaded.map.mode = .load ∧ live.map.mode = .service ∧ evacuating.map.mode = .service ∧ evacuating.evac.state = .active
    ∧ evacuating.screens[0].isSome = true ∧ evacuating.queue.entries = [] := by decide
theorem witness_DynamicEditsStoreAndBump :
    (calm.map.segs.get 2).map Seg.state = some .opened ∧ (calm.map.listings.get 5).isSome = true
    ∧ overrideOf? .vacant none = some .vacant := by decide
theorem witness_DirectoryQueriesAnswer :
    (ascii "Caf").length ≤ 8 ∧ (calm.map.listings.get 5).isSome = true ∧ (calm.map.listings.get 1023).isSome = false
    ∧ 8 < (ascii "Cafe Lumo").length ∧ (∃ c ∈ some 64, 63 < c) ∧ (∀ x ∈ some 1, x ≤ 1) := by decide
theorem witness_StartEntersService :
    loaded.map.mode = .load ∧ loaded.invalid = none ∧ loaded.evac.state ≠ .pending
    ∧ ({ loaded with evac := { loaded.evac with state := .pending } } : State).invalid = none
    ∧ State.reset.map.mode = .load ∧ State.reset.invalid = some (.noExit, none) := by decide
theorem reset_screens : ∀ n : Fin 48, State.reset.screens[n] = none := by decide
/-- The premises of the clause on a PENDING evacuation's entry hold together (R146, R151). -/
theorem witness_StartEntersService_pending :
    ∃ s : State, s.map.mode = .load ∧ s.invalid = none ∧ s.evac.state = .pending ∧ ModesAgree s
      ∧ (s.screens[(0 : Fin 48)]).isSome = true :=
  ⟨{ loaded with evac := { loaded.evac with state := .pending } }, by decide, by decide, by decide,
    by unfold ModesAgree; decide, by decide⟩
theorem witness_StartEntersService_check :
    TablesSorted State.reset ∧ StartFailure State.reset 6 0
    ∧ ∀ k j, StartFailure State.reset k j → 6 < k ∨ 6 = k ∧ 0 ≤ j := by
  refine ⟨by unfold TablesSorted; decide, ⟨rfl, fun k x h => by cases h⟩, ?_⟩
  intro k j h
  unfold StartFailure at h
  split at h
  · obtain ⟨_, h, _⟩ := h; cases h
  · obtain ⟨_, h, _⟩ := h; cases h
  · obtain ⟨_, h, _⟩ := h; cases h
  · obtain ⟨_, _, h, _⟩ := h; cases h
  · obtain ⟨n, c, _, h, _⟩ := h
    rw [reset_screens n] at h
    cases h
  · exact .inr ⟨rfl, Nat.zero_le _⟩
  · exact h.elim
theorem witness_StopLeavesService_refused :
    loaded.map.mode = .load ∧ calm.map.mode = .service ∧ (∀ n : Fin 7, ({} : ListingArgs).days[n] = none)
    ∧ status (.stop 1) loaded = some .wrongMode ∧ status (.mapClear 1) calm = some .wrongMode := by decide
theorem witness_StopLeavesService :
    live.map.mode = .service ∧ live.evac.state ≠ .active ∧ evacuating.map.mode = .service
    ∧ evacuating.evac.state = .active := by decide
theorem witness_CostTableWritesStoreAndBump : (255 : Nat) ≤ 255 := by decide
theorem witness_SegmentAndPathCostAreFormed :
    CostTablesKept live ∧ Seg.usable live .standard none ⟨3, 2, 4000, .lift, none, some 2, .opened, 255⟩ = true
    ∧ etaOf (heldCost []) = etaOf (heldCost []) :=
  ⟨live_costs, by decide, rfl⟩

/-- One segment as a view holds it. -/
def hop0 : Hop := ⟨0, 0, 1, .walk, 10, 8, false, false⟩

/-- A second segment, dearer. -/
def hop1 : Hop := ⟨1, 0, 1, .walk, 20, 16, false, false⟩

theorem witness_SegmentAndPathCost_order :
    etaOf (heldCost [hop0]) = etaOf (heldCost [hop1]) ∧ heldCost [hop0] < heldCost [hop1] := by decide
theorem witness_FoundPathIsTheChosenPath :
    (([hop0, hop1].map Hop.seg).Nodup) ∧ foundPath [hop0, hop1] 0 [1] = some [hop0] ∧ foundPath [hop0, hop1] 1 [0] = none := by
  decide
theorem witness_ViewHoldsTheUsableSegments : calm.map.segs.wf := by decide
theorem witness_RouteIdIsFresh : LimitsKept live ∧ IdsDistinct live :=
  ⟨by unfold LimitsKept OutcomesCounted; decide, by unfold IdsDistinct; decide⟩
theorem witness_RouteAcceptedJoinsTheQueue :
    live.map.mode = .service ∧ live.evac.state ≠ .active
    ∧ (∃ c, live.screens[(0 : Fin 48)] = some c ∧ c.session.state ≠ .dormant) ∧ (live.map.nodes.get 1).isSome = true
    ∧ (live.map.listings.get 5).isSome = true ∧ live.queue.outstanding < 24 ∧ live.queue.entries = [] :=
  ⟨rfl, by decide, ⟨_, rfl, by decide⟩, by decide, by decide, by decide, rfl⟩
/-- The answer of the first of R37's checks that fails, at each of the eight in turn. -/
theorem witness_RouteAcceptedJoinsTheQueue_refused :
    status (.route 1 {}) loaded = some .wrongMode ∧ status (.route 1 {}) evacuating = some .evacActive
    ∧ status (.route 1 { screen := some 48 }) calm = some .outOfRange ∧ status (.route 1 { screen := some 47 }) calm = some .conflict
    ∧ answer (.route 1 { screen := some 47, dst := some 2047 }) calm = some ⟨.notFound, [(.field, .key .screen)], none⟩
    ∧ answer (.route 1 { src := some 0, dst := some 2047 }) calm = some ⟨.notFound, [(.field, .key .toSide)], none⟩
    ∧ status (.route 1 { screen := some 0, exit := some 1 }) { calm with screens := loaded.screens } = some .wrongMode
    ∧ answer (.route 1 { src := some 0, exit := some 1 }) { calm with queue := { calm.queue with outstanding := 24 } }
        = some ⟨.queueFull, [(.limit, .word .outcomes)], none⟩
    ∧ answer (.route 1 { src := some 0, exit := some 1 }) { calm with queue := { calm.queue with
          entries := List.replicate 16 entry7 } } = some ⟨.queueFull, [(.limit, .word .queue)], none⟩ := by decide
/-- A path of n segments whose kinds alternate, so that each makes a run of its own. -/
def zigzag (n : Nat) : Path :=
  (List.range n).map fun i => { hop0 with seg := i, src := i, dst := i + 1, kind := if i % 2 = 0 then .walk else .stairs }

/-- At 24 runs every run has its leg (R70). -/
theorem witness_LegsCoverThePath_at24 :
    (legRuns (zigzag 24)).length = 24 ∧ (legsOf calm.map (zigzag 24)).length = 24
    ∧ ((legsOf calm.map (zigzag 24))[23]?).map (fun l => (l.kind, l.endNode, l.distance, l.count))
      = some (.seg .stairs, 24, 10, 1) := by decide
/-- At 25 runs the 24th leg is CONTINUE over the last two (R70). -/
theorem witness_LegsCoverThePath_at25 :
    (legRuns (zigzag 25)).length = 25 ∧ (legsOf calm.map (zigzag 25)).length = 24
    ∧ ((legsOf calm.map (zigzag 25))[22]?).map (fun l => (l.kind, l.count)) = some (.seg .walk, 1)
    ∧ ((legsOf calm.map (zigzag 25))[23]?).map (fun l => (l.kind, l.endNode, l.distance, l.count))
      = some (.continued, 25, 20, 2) := by decide
theorem witness_EntryEndedPostsItsOutcome_refused :
    (65535 : Nat) < 65536 ∧ (∀ e ∈ calm.queue.entries ++ calm.units.entries, e.id ≠ 65535)
    ∧ ∃ (s : State) (e : Entry), e ∈ s.queue.entries ++ s.units.entries ∧ IdsDistinct s ∧ e.id = 7 ∧ e.cls = .evacuation :=
  ⟨by decide, by decide, { evacuating with queue := { calm.queue with entries := [{ entry7 with cls := .evacuation }] } },
    { entry7 with cls := .evacuation }, by decide, by unfold IdsDistinct; decide, rfl, rfl⟩
theorem witness_EntryEndedPostsItsOutcome :
    IdsDistinct live ∧ entry7.cls = .normal ∧ entry7 ∈ live.units.entries ∧ entriesOf live .normal 0 = [entry7] :=
  ⟨by unfold IdsDistinct; decide, rfl, by decide, by decide⟩
theorem witness_ArbiterAndSweepActInTurn :
    (∃ s : State, s.queue.entries = entry7 :: [] ∧ s.units.a = none)
    ∧ (∃ s : State, s.queue.entries = entry7 :: [] ∧ s.units.a.isSome = true ∧ s.units.b = none)
    ∧ (∃ s : State, s.queue.entries = [] ∧ s.evac.state = .active ∧ s.queue.outstanding < 24
        ∧ (∃ c, s.screens[(0 : Fin 48)] = some c) ∧ s.evac.due[(0 : Fin 48)] = true ∧ entriesOf s .evacuation 0 = [])
    ∧ calm.queue.entries = [] ∧ calm.evac.state ≠ .active :=
  ⟨⟨{ calm with queue := { calm.queue with entries := [entry7] } }, rfl, rfl⟩,
   ⟨{ live with queue := { live.queue with entries := [entry7] } }, rfl, rfl, rfl⟩,
   ⟨evacuating.setDue 0 true, rfl, rfl, by decide, ⟨_, rfl⟩, by decide, by decide⟩, rfl, by decide⟩
theorem witness_StartEventTakesTheMapAsItStands :
    (beginAttempt calm entry7 1).immediate = false
    ∧ (beginAttempt calm { entry7 with dest := .listing 6 } 1).immediate = true
    ∧ (beginAttempt calm { entry7 with dest := .category 9 } 1).resolution = .failed .noDestination
    ∧ (beginAttempt State.reset { entry7 with dest := .exit } 1).resolution = .failed .noExit
    ∧ (calm.map.listings.get 5).map calm.effective = some .opened
    ∧ (beginAttempt calm { entry7 with dest := .category 3 } 1).resolution = .targets [⟨2, some 5, false, false⟩] {}
    ∧ (beginAttempt calm { entry7 with dest := .exit } 1).resolution = .targets [⟨1, none, false, false⟩] {} := by decide
/-- No OPEN or UNKNOWN listing of the category: the second choice; and an exit of the origin's own closed zone (R57, R59). -/
theorem witness_StartEventTakesTheMapAsItStands_closed :
    (beginAttempt { calm with map := { calm.map with listings := calm.map.listings.map fun q =>
        (q.1, { q.2 with override := .forcedClosed }) } } { entry7 with dest := .category 3 } 1).resolution
      = .targets [⟨2, some 5, false, false⟩] { destClosed := true }
    ∧ (beginAttempt (withZone { calm with map := { calm.map with nodes := calm.map.nodes.put 1 ⟨.exit, 0, some 1, none⟩ } } 1
        { Zone.reset with closed := true }) { entry7 with dest := .exit } 1).resolution
      = .targets [⟨1, none, false, true⟩] {} := by decide
theorem witness_CompletionPostsOrRetries :
    live.units.get .a = some (attempt7 1 false) ∧ live.units.get .b = none ∧ (attempt7 1 false).changed = false
    ∧ (attempt7 2 true).changed = true ∧ (attempt7 2 true).number < 3 ∧ 3 ≤ (attempt7 3 true).number
    ∧ foundPath (attempt7 1 false).view 0 [2] = none
    ∧ foundPath (viewOf calm .standard none) 0 [1] ≠ none := by decide

/-- Unit A at work on the entry of screen 0, its path found, in a map whose segment 2 is as given now. -/
def working (number : Nat) (changed : Bool) (now : OpenState) : State :=
  { live with
    map := { live.map with segs := live.map.segs.map fun q => (q.1, { q.2 with state := if q.1 = 2 then now else q.2.state }) }
    units := { a := some { beginAttempt calm entry7 number with changed := changed }, b := none } }

/-- The path that unit A has found. -/
def workingPath (s : State) : Option Path := (s.units.get .a).bind Attempt.path

theorem witness_CompletionPostsOrRetries_retry :
    ∃ a, (working 2 true .opened).units.get .a = some a ∧ a.changed = true ∧ a.number < 3 := ⟨_, rfl, rfl, by decide⟩
theorem witness_CompletionPostsOrRetries_paths :
    (workingPath (working 1 false .opened)).map (fun p => p.map Hop.seg) = some [0, 2]
    ∧ (∃ a, (working 3 true .opened).units.get .a = some a ∧ a.changed = true ∧ 3 ≤ a.number
        ∧ (a.path.getD []).all (hopUsableNow (working 3 true .opened) a) = true)
    ∧ ∃ a, (working 3 true .closed).units.get .a = some a ∧ a.changed = true ∧ 3 ≤ a.number
        ∧ (a.path.getD []).all (hopUsableNow (working 3 true .closed) a) = false :=
  ⟨by decide, ⟨_, rfl, rfl, by decide, by decide⟩, ⟨_, rfl, rfl, by decide, by decide⟩⟩

/-- A TWO_WAY gate between zones 1 and 2, a change of beam A maturing. -/
def openGate : Gate := { Gate.reset with mode := .twoWay, src := some 1, dst := some 2, a := ⟨true, false, none⟩ }

theorem witness_BeamEventsDecode :
    openGate = (withGate calm 3 openGate).gates[(3 : Fin 32)] ∧ openGate.a.line ≠ openGate.a.debounced
    ∧ openGate.mode ≠ .off ∧ openGate.state ≠ .fault ∧ Gate.reset.mode = .off
    ∧ (BeamInput.mk true false none).line ≠ (BeamInput.mk true false none).debounced := by decide
theorem witness_PassageCountsOnce :
    ∃ (s : State) (x : Gate), x = s.gates[(3 : Fin 32)] ∧ (x.mode = .twoWay ∨ x.mode = .oneWay) ∧ x.state = .clear
      ∧ x.invert = false ∧ x.a.line = false ∧ x.a.debounced = false ∧ x.b.line = false ∧ x.b.debounced = false
      ∧ (x.src = none ∨ x.src ≠ x.dst) :=
  ⟨withGate calm 3 { openGate with a := ⟨false, false, none⟩ }, { openGate with a := ⟨false, false, none⟩ }, by decide⟩
theorem witness_StuckGateFaultsAndRecovers :
    (withGate calm 31 { openGate with a := ⟨true, true, some 255⟩ }).gates[(31 : Fin 32)].a.stuck.isSome = true
    ∧ (withGate calm 31 { openGate with b := ⟨true, true, some 1⟩ }).gates[(31 : Fin 32)].b.stuck.isSome = true
    ∧ calm.gates[(0 : Fin 32)].a.stuck = none ∧ calm.gates[(0 : Fin 32)].b.stuck = none
    ∧ (withGate calm 0 { openGate with state := .fault, recovery := true }).gates[(0 : Fin 32)].recovery = true
    ∧ calm.gates[(0 : Fin 32)].recovery = false := by decide
/-- The sessions that an outcome moves: one pending on its id with a full stack, and one in ALERT (R136, R139). -/
theorem witness_CompletionPostsOrRetries_sessions :
    ∃ ses alert : Session, ses.state = .routePending ∧ ses.pending = some 7 ∧ ses.stack.length = 8
      ∧ alert.state = .alert ∧ (ses.takeOutcome 7 .delivered { point := 0, cadence := none, language := 0, idleTimeout := 90 }).stack.length = 8 :=
  ⟨{ state := .routePending, language := 0, profile := .standard, stack := List.replicate 8 ⟨.category 3, 0, .quick⟩
     pending := some 7, shown := none, evac := none, idle := none },
   { state := .alert, language := 0, profile := .standard, stack := [], pending := none, shown := none, evac := none
     idle := none }, rfl, rfl, rfl, rfl, by decide⟩
theorem witness_GateConfiguredAndRead :
    ∃ a : GateArgs, (∀ n, a.src = some (some n) → n ≤ 31) ∧ (∀ n, a.dst = some (some n) → n ≤ 31)
      ∧ (∀ n ∈ a.invert, n ≤ 1) ∧ (∀ n ∈ a.stuck, 1 ≤ n ∧ n ≤ 255) ∧ (toFin? 32 31 ≠ toFin? 32 0) :=
  ⟨{ mode := some .pulse, src := some (some 31), dst := some (some 0), invert := some 1, stuck := some 255 },
    by simp, by simp, by simp, by simp, by decide⟩
theorem witness_ZoneConfigured :
    ∃ (a : ZoneArgs) (x : Zone), x = calm.census.zones[(31 : Fin 32)] ∧ (∀ e ∈ a.enable, e ≤ 1) ∧ (∀ m ∈ a.margin, m ≤ 999)
      ∧ 1 ≤ a.busy.getD x.busyAt ∧ a.busy.getD x.busyAt ≤ 9998 ∧ a.busy.getD x.busyAt < a.crowded.getD x.crowdedAt
      ∧ a.crowded.getD x.crowdedAt ≤ 9999 :=
  ⟨{ enable := some 1, busy := some 9998, crowded := some 9999, margin := some 999, hold := some 61 }, Zone.reset,
    by decide⟩
theorem witness_OccupancyCorrectsTheZone : (31 : Nat) < 32 ∧ ((31 : Fin 32).val = 31)
    ∧ calm.census.zones[(31 : Fin 32)].enable ≠ .enabled := by decide
theorem witness_ClosuresAndCensusZero : calm.census.zones[(3 : Fin 32)].closed ≠ true
    ∧ calm.census.zones[(3 : Fin 32)].closed = false := by decide
theorem witness_CensusReadingsAnswer :
    ∃ (s : State) (r : HistoryRecord), s.census.ring = [] ++ r :: [] ∧ r.tick = 65535 ∧ ∀ q ∈ calm.census.ring, q.tick ≠ 9 :=
  ⟨{ calm with census := { calm.census with ring := [⟨65535, [], [], []⟩] } }, ⟨65535, [], [], []⟩, rfl, rfl,
    by intro q h; cases h⟩
theorem witness_WatchRequestsConfigureAndArm :
    ∃ (a : WatchArgs) (sub : Subject) (act : WatchAction),
      watchSubject? a = some sub ∧ watchAction? a = some act ∧ (∀ n ∈ a.listing, n ≤ 1023) ∧ a.threshold ≤ 65535
      ∧ (∀ n ∈ a.count, n ≤ 255) ∧ (∀ n ∈ a.chained, n ≤ 1) ∧ (∀ n ∈ a.holdOff, 1 ≤ n ∧ n ≤ 255)
      ∧ ¬ ((7 : Fin 8) = 0 ∧ a.chained = some 1) ∧ ¬ ((7 : Fin 8) = 7 ∧ a.action = .stage)
      ∧ readyWatch.configured = true :=
  ⟨{ subject := .demand, cmp := .below, threshold := 65535, action := .apply, listing := some 1023, count := some 255
     chained := some 1, target := some 31, holdOff := some 255 }, .demand 1023, .apply 31, by decide⟩
theorem witness_WatchesFireAndTheirTimersExpire :
    readyWatch = (withWatch calm 2 readyWatch).watches.watches[(2 : Fin 8)] ∧ readyWatch.state = .armed
    ∧ readyWatch.subject = some .failures ∧ readyWatch.action = some .report ∧ cmpHolds readyWatch.cmp 0 readyWatch.threshold
        = true
    ∧ readyWatch.remaining = 0 ∧ 0 < ({ readyWatch with remaining := 1 } : Watch).remaining
    ∧ cmpHolds .below 0 0 = false ∧ Watch.reset.state ≠ .armed
    ∧ ({ readyWatch with state := .holdOff } : Watch).state = .holdOff ∧ Watch.reset.state ≠ .holdOff := by decide

theorem witness_SessionRequestsMoveTheSession :
    ∃ c : Screen, live.screens[(0 : Fin 48)] = some c ∧ c.session.state ≠ .dormant ∧ c.session.state ≠ .alert
      ∧ navPage? { page := .category, category := some 63 } = some (.category 63)
      ∧ c.session.stack = [] ∧ c.session.state ≠ .idle :=
  ⟨_, rfl, by decide, by decide, rfl, rfl, by decide⟩
/-- The answer of the first of R127's checks that fails, at each of the seven in turn. -/
theorem witness_SessionRequestsMoveTheSession_refused :
    status (.tap 1 48) calm = some .outOfRange ∧ status (.tap 1 47) calm = some .notFound
    ∧ status (.tap 1 0) loaded = some .wrongMode ∧ status (.tap 1 0) evacuating = some .evacActive
    ∧ status (.prefs 1 0 (some 8) none) calm = some .outOfRange ∧ status (.prefs 1 0 none none) calm = some .conflict
    ∧ status (.nav 1 0 { page := .listing, listing := some 1023 }) calm = some .notFound
    ∧ status (.nav 1 0 { page := .route, listing := some 1023 }) calm = some .conflict := by decide
theorem witness_IdleExpiryAndScreenGet :
    (∃ c : Screen, live.screens[(0 : Fin 48)] = some c ∧ c.session.idle = some ⟨90, 3⟩)
    ∧ ∃ c : Screen, calm.screens[(0 : Fin 48)] = some c ∧ c.session.idle = none := ⟨⟨_, rfl, rfl⟩, ⟨_, rfl, rfl⟩⟩
theorem witness_EvacuationIsEntered :
    ModesAgree live ∧ ClassesAgree live ∧ live.evac.state = .inactive ∧ live.map.mode = .service
    ∧ live.evac.line = false ∧ ({ live.evac with line := true } : EvacControl).debounced = false :=
  ⟨live_modes, by unfold ClassesAgree; decide, rfl, rfl, rfl, rfl⟩
theorem witness_EvacuationIsEntered_byTheLine :
    ∃ s : State, ModesAgree s ∧ ClassesAgree s ∧ s.evac.line = true ∧ s.evac.debounced = false ∧ s.evac.state = .inactive
      ∧ s.map.mode = .service :=
  ⟨{ live with evac := { live.evac with line := true } }, by unfold ModesAgree; decide, by unfold ClassesAgree; decide, rfl,
    rfl, rfl, rfl⟩
theorem witness_EvacuationIsEntered_otherwise :
    ModesAgree loaded ∧ ClassesAgree loaded ∧ loaded.evac.state = .inactive ∧ loaded.map.mode = .load
    ∧ ModesAgree evacuating ∧ ClassesAgree evacuating ∧ evacuating.evac.state ≠ .inactive :=
  ⟨by unfold ModesAgree; decide, by unfold ClassesAgree; decide, rfl, rfl, by unfold ModesAgree; decide,
    by unfold ClassesAgree; decide, by decide⟩
theorem witness_EvacuationIsLeft :
    ModesAgree evacuating ∧ ClassesAgree evacuating ∧ evacuating.evac.debounced = false ∧ evacuating.evac.state = .active
    ∧ evacuating.evac.line = false ∧ ({ evacuating.evac with debounced := true } : EvacControl).debounced = true
    ∧ calm.evac.state = .inactive :=
  ⟨by unfold ModesAgree; decide, by unfold ClassesAgree; decide, rfl, rfl, rfl, rfl, rfl⟩
theorem witness_ClockSetsAndAdvances :
    (∃ now : DayTime, now.minute ≤ 1439 ∧ now.second = (some 59).getD 0) ∧ (∀ k : Fin 8, calm.clock.timers[k].due = false)
    ∧ calm.clock.clock = none ∧ (DayTime.mk 6 1439 59).minute = 1439 ∧ (DayTime.mk 6 1438 58).second < 59 :=
  ⟨⟨⟨6, 1439, 59⟩, by decide⟩, by decide, rfl, rfl, by decide⟩
theorem witness_CadenceConfiguredRunAndHalted :
    (∀ n ∈ ({ pages := some 16, role := some .master } : CadenceArgs).pages, 1 ≤ n ∧ n ≤ 16)
    ∧ (∀ j : Fin 8, j ≠ 3 → calm.clock.timers[j].role ≠ .master)
    ∧ (withTimer calm 4 { CadenceTimer.reset with role := .master }).clock.timers[(4 : Fin 8)].role = .master := by decide
theorem witness_PeriodExpiryStepsThePage :
    (withTimer calm 4 { CadenceTimer.reset with due := true }).clock.timers[(4 : Fin 8)].due = true
    ∧ calm.clock.timers[(4 : Fin 8)].due = false := by decide
theorem witness_LinesAreAssembledAndTaken :
    PortSound calm ∧ calm.port.dropping = false ∧ ({ calm.port with rx := [⟨65, false⟩] } : Port).rx ≠ []
    ∧ ([] : List RxChar).getLast? ≠ some ⟨13, false⟩ ∧ ¬ ((65 : Code) = 10 ∧ false = false)
    ∧ readLine (ascii "FLY 3") = .unknownVerb 3 ∧ readLine (ascii "FLY") = .noTag
    ∧ readLine (ascii "FETCH 3 X=1") = .badField 3 := by
  refine ⟨by unfold PortSound; decide, rfl, by decide, by decide, by decide, by decide, by decide, by decide⟩
theorem witness_RequestsAreAnswered :
    (holding (ascii "FETCH 7")).port.hand = some (ascii "FETCH 7") ∧ readLine (ascii "FETCH 7") = .request (.fetch 7)
    ∧ (Instr.fetch 7).tag?.isSome = true ∧ (holding (ascii "FETCH 7")).port.input = []
    ∧ ({ calm.port with tx := [⟨1, .ok []⟩] } : Port).tx = ⟨1, .ok []⟩ :: []
    ∧ ({ evac := some 1 } : MaskArgs).routeResult ≠ some 0 := by decide
/-- A notice queue of 32, its head a ROUTE_RESULT. -/
def fullPort : Port :=
  { calm.port with notices := .routeResult (emptyResult calm entry7 .cancelled []) :: List.replicate 31 (.gateClear 3) }
theorem witness_RequestsAreAnswered_notices :
    fullPort.notices.length = 32
    ∧ fullPort.notices = [emptyResult calm entry7 .cancelled []].map Notice.routeResult
        ++ .gateClear 3 :: List.replicate 30 (.gateClear 3)
    ∧ (∀ r, Notice.gateClear 3 ≠ .routeResult r) ∧ calm.port.mask.cadence = false ∧ calm.port.notices.length < 32
    ∧ (fullPort.post (.gateClear 4)).lost = true ∧ (fullPort.post (.gateClear 4)).notices.getLast? = some (.gateClear 4)
    ∧ (fullPort.post (.cadence 0 0 false false)).lost = false :=
  ⟨by decide, by decide, fun r h => (by cases h), by decide, by decide, by decide, by decide, by decide⟩
theorem witness_RequestsAreAnswered_refused :
    (Instr.lookup 1 1024).tag? = some 1 ∧ status (.lookup 1 1024) calm = some .outOfRange := by decide

end Sys2Proof.Tests
end

/-! # Proofs: segment cost -/

namespace Sys2Proof.Machine

open Sys2Proof.Safety

/-! ## Division that rounds up -/

/-- The two bounds that fix a quotient rounded up; every rule with ⌈ ⌉ is read off them. -/
theorem ceilDiv_bounds {b : Nat} (a : Nat) (hb : 0 < b) : a ≤ b * ceilDiv a b ∧ b * ceilDiv a b < a + b := by
  have hdiv : b * ((a + (b - 1)) / b) + (a + (b - 1)) % b = a + (b - 1) := Nat.div_add_mod _ _
  have hmod : (a + (b - 1)) % b < b := Nat.mod_lt _ hb
  unfold ceilDiv
  omega

theorem baseCost_bounds (length pace : Nat) :
    length * pace ≤ 100 * baseCost length pace ∧ 100 * baseCost length pace < length * pace + 100 :=
  ceilDiv_bounds _ (by decide)

theorem scaledCost_bounds (base mult : Nat) :
    base * mult ≤ 16 * scaledCost base mult ∧ 16 * scaledCost base mult < base * mult + 16 :=
  ceilDiv_bounds _ (by decide)

theorem etaOf_bounds (cost : Nat) : cost ≤ 600 * etaOf cost ∧ 600 * etaOf cost < cost + 600 :=
  ceilDiv_bounds _ (by decide)

/-! ## What usability gives the cost (R28) -/

section Usable

variable {s : State} {p : Profile} {o : Option (Fin 32)} {g : Seg}

theorem Seg.paceOf_pos_of_usable (h : g.usable s p o = true) : 0 < s.map.paceOf p g.kind := by
  simp only [Seg.usable, Bool.and_eq_true, decide_eq_true_eq] at h
  obtain ⟨⟨⟨_, hpace⟩, _⟩, _⟩ := h
  exact hpace

theorem Seg.liftWait_of_usable (h : g.usable s p o = true) (hkind : g.kind = .lift) :
    ∃ k : Fin 16, g.group = some k ∧ s.map.liftWaits[k] < 255 := by
  simp only [Seg.usable, Bool.and_eq_true] at h
  obtain ⟨⟨_, hruns⟩, _⟩ := h
  cases hgroup : g.group with
  | none => simp [Seg.liftRuns, Seg.wait?, hkind, hgroup] at hruns
  | some k => exact ⟨k, rfl, by simpa [Seg.liftRuns, Seg.wait?, hkind, hgroup] using hruns⟩

/-- The lift waiting of a usable segment is ten times one wait: the group's for a LIFT, 0 for any other kind (R32). -/
theorem Seg.waitCost_of_usable (h : g.usable s p o = true) :
    ∃ wait : Nat, g.waitCost s = 10 * wait ∧ wait ≤ 254
      ∧ (g.kind = .lift → ∃ k : Fin 16, g.group = some k ∧ wait = s.map.liftWaits[k]) ∧ (g.kind ≠ .lift → wait = 0) := by
  by_cases hkind : g.kind = .lift
  · obtain ⟨k, hgroup, hwait⟩ := Seg.liftWait_of_usable h hkind
    exact ⟨s.map.liftWaits[k], by simp [Seg.waitCost, Seg.wait?, hkind, hgroup], by omega,
      fun _ => ⟨k, hgroup, rfl⟩, fun hne => absurd hkind hne⟩
  · exact ⟨0, by simp [Seg.waitCost, hkind], by omega, fun heq => absurd heq hkind, fun _ => rfl⟩

end Usable

/-! ## The parts of the cost and their ranges (R30, R31) -/

theorem baseCost_range {length pace : Nat} (hlen : 1 ≤ length) (hlen' : length ≤ 4000) (hpace : 1 ≤ pace)
    (hpace' : pace ≤ 255) : 1 ≤ baseCost length pace ∧ baseCost length pace ≤ 10200 := by
  obtain ⟨hlo, hhi⟩ := baseCost_bounds length pace
  have hpos : 1 * 1 ≤ length * pace := Nat.mul_le_mul hlen hpace
  have htop : length * pace ≤ 4000 * 255 := Nat.mul_le_mul hlen' hpace'
  omega

theorem Seg.multiplier_range {s : State} (hs : CostTablesKept s) (p : Profile) (g : Seg) :
    16 ≤ g.multiplier s p ∧ g.multiplier s p ≤ 255 := by
  obtain ⟨_, _, hmult⟩ := hs
  unfold Seg.multiplier
  split
  · decide
  · exact hmult _ _

/-- A multiplier of at least 16 never makes a segment cheaper than its base. -/
theorem scaledCost_range {base mult : Nat} (hbase : base ≤ 10200) (hmult : 16 ≤ mult) (hmult' : mult ≤ 255) :
    base ≤ scaledCost base mult ∧ scaledCost base mult ≤ 162563 := by
  obtain ⟨hlo, hhi⟩ := scaledCost_bounds base mult
  have hleast : base * 16 ≤ base * mult := Nat.mul_le_mul_left base hmult
  have htop : base * mult ≤ 10200 * 255 := Nat.mul_le_mul hbase hmult'
  omega

/-- Where the parts are summed, the sum is held to 9,999 (R32). -/
theorem Seg.cost_eq_held {s : State} {g : Seg} {wait : Nat} (p : Profile) (hwait : g.waitCost s = 10 * wait) :
    g.cost s p =
      (if 9999 < scaledCost (baseCost g.length (s.map.paceOf p g.kind)) (g.multiplier s p) + 10 * g.trim + 10 * wait then 9999
       else scaledCost (baseCost g.length (s.map.paceOf p g.kind)) (g.multiplier s p) + 10 * g.trim + 10 * wait) := by
  rw [Seg.cost, hwait, min_def_lt]

theorem Seg.cost_reversed (s : State) (p : Profile) (g : Seg) :
    Seg.cost s p { g with src := g.dst, dst := g.src } = g.cost s p := rfl

/-! ## The cost of a path and its ETA (R33, R34) -/

theorem heldSum_eq_held (costs : List Nat) : heldSum costs = (if 999999 < costs.sum then 999999 else costs.sum) :=
  min_def_lt _ _

theorem heldSum_le (costs : List Nat) : heldSum costs ≤ 999999 := Nat.min_le_left _ _

theorem heldSum_eq_zero_iff {costs : List Nat} (hpos : ∀ c ∈ costs, 1 ≤ c) : heldSum costs = 0 ↔ costs = [] := by
  cases costs with
  | nil => simp [heldSum]
  | cons c rest =>
    have hc : 1 ≤ c := hpos c List.mem_cons_self
    simp only [heldSum, List.sum_cons, reduceCtorEq, iff_false]
    omega

/-- The whole minutes of an ETA: `k + 1` for a cost past `k` minutes and within `k + 1`. -/
theorem etaOf_eq_succ {cost k : Nat} (hlo : 600 * k < cost) (hhi : cost ≤ 600 * (k + 1)) : etaOf cost = k + 1 := by
  have hbounds := etaOf_bounds cost
  omega

theorem chosenBefore_of_heldCost_lt {p q : Path} (h : heldCost p < heldCost q) : ChosenBefore p q ∧ ¬ ChosenBefore q p := by
  refine ⟨.inl h, ?_⟩
  rintro (hlt | ⟨heq, _⟩) <;> omega

/-- Settles O31: each part of the cost is taken from its definition with the range proved of it above. -/
theorem segmentAndPathCostAreFormed : Obligations.SegmentAndPathCostAreFormed := by
  refine ⟨?segment, fun costs => ⟨heldSum_eq_held costs, heldSum_le costs, heldSum_eq_zero_iff⟩, etaOf_bounds,
    ⟨rfl, fun n hlo hhi => etaOf_eq_succ (k := 0) (by omega) (by omega),
      fun n hlo hhi => etaOf_eq_succ (k := 1) (by omega) (by omega), etaOf_eq_succ (k := 1666) (by omega) (by omega)⟩,
    fun _ _ _ _ _ _ _ _ => rfl, fun p q _ hlt => chosenBefore_of_heldCost_lt hlt⟩
  case segment =>
    intro s p o g hs husable hlen hlen' htrim
    have hpace := Seg.paceOf_pos_of_usable husable
    have hpace' : s.map.paceOf p g.kind ≤ 255 := by
      obtain ⟨_, hpaces, _⟩ := hs
      exact hpaces p g.kind
    obtain ⟨wait, hwait, hwait', hlift, hnoLift⟩ := Seg.waitCost_of_usable husable
    obtain ⟨hbaseLo, hbaseHi⟩ := baseCost_bounds g.length (s.map.paceOf p g.kind)
    obtain ⟨hbase, hbase'⟩ := baseCost_range hlen hlen' hpace hpace'
    obtain ⟨hmult, hmult'⟩ := Seg.multiplier_range hs p g
    obtain ⟨hscaledLo, hscaledHi⟩ := scaledCost_bounds (baseCost g.length (s.map.paceOf p g.kind)) (g.multiplier s p)
    obtain ⟨hscaled, hscaled'⟩ := scaledCost_range hbase' hmult hmult'
    have hcost := Seg.cost_eq_held p hwait
    have hrange : 1 ≤ g.cost s p ∧ g.cost s p ≤ 9999 := by rw [hcost]; split <;> omega
    obtain ⟨hcostLo, hcostHi⟩ := hrange
    exact ⟨_, _, _, _, wait, rfl, hpace, hpace', hbaseLo, hbaseHi, hbase, hbase', rfl, hmult, hmult', hscaledLo, hscaledHi,
      hscaled, hbase.trans hscaled, hscaled', Nat.mul_le_mul_left 10 htrim, hlift, hnoLift, Nat.mul_le_mul_left 10 hwait',
      hcost, hcostLo, hcostHi, Seg.cost_reversed s p g⟩

end Sys2Proof.Machine

/-! # Proofs: occupancy corrections -/

namespace Sys2Proof.Machine

/-! ## The tick by the enable state (R95) -/

theorem Zone.tick_of_enabled {x : Zone} (h : x.enable = .enabled) : x.tick = x.classify := by
  rw [Zone.tick, h]

/-- Bringing down (R97) and resting read the class and the enable state alone, so the count of a zone that is not ENABLED
never reaches its class. -/
theorem Zone.tick_cls_congr {x y : Zone} (henable : y.enable = x.enable) (hcls : y.cls = x.cls)
    (hoff : y.enable ≠ .enabled) : y.tick.cls = x.tick.cls := by
  rw [henable] at hoff
  unfold Zone.tick
  rw [henable]
  cases hx : x.enable with
  | enabled => exact absurd hx hoff
  | disabling => exact congrArg classDown hcls
  | disabled => exact hcls

/-! ## OCCUPANCY's effect (R102) -/

theorem exec_occupancy (tag k n : Nat) (s : State) :
    exec (.occupancy tag k n) s = respond (.occupancy tag k n) tag s (occupancyEffect k n) := rfl

theorem occupancyEffect_of_le {k : Nat} (h : 32 ≤ k) (n : Nat) (s : State) :
    occupancyEffect k n s = (s, .no .outOfRange) := by
  rw [occupancyEffect, toFin?_of_le h]

theorem occupancyEffect_val (z : Fin 32) (n : Nat) (s : State) :
    occupancyEffect z.val n s =
      (s.modifyZone z fun x => { x with occupancy := min 9999 n, estimated := false },
       .ok [(.zone, .num z.val), (.occ, .num (min 9999 n)), (.clamped, flagVal (9999 < n))]) := by
  rw [occupancyEffect, toFin?_val]

theorem flagVal_decide (p : Prop) [Decidable p] : flagVal (decide p) = .num (if p then 1 else 0) := by
  by_cases h : p <;> simp [flagVal, bit, h]

/-- A ZONE in range: the zone's record is set in the census, and nothing else is touched but the port. -/
theorem exec_occupancy_val (tag n : Nat) (z : Fin 32) (s : State) :
    exec (.occupancy tag z.val n) s
      = .next (((s.taken (.occupancy tag z.val n)).withCensus { s.census with
          zones := s.census.zones.set z { s.census.zones[z] with occupancy := min 9999 n, estimated := false } }).reply tag
          (.ok [(.zone, .num z.val), (.occ, .num (min 9999 n)), (.clamped, .num (if 9999 < n then 1 else 0))])) := by
  rw [exec_occupancy, respond_next, occupancyEffect_val, flagVal_decide]
  simp only [State.modifyZone, modifyAt, State.taken_census]

/-- Settles O47: the two range cases of ZONE, and what the next tick makes of the class. -/
theorem occupancyCorrectsTheZone : Obligations.OccupancyCorrectsTheZone := by
  intro s tag k n
  refine ⟨fun hk => ?outOfRange, ?inRange⟩
  case outOfRange => rw [exec_occupancy, respond_next, occupancyEffect_of_le hk]
  case inRange =>
    rintro z rfl
    refine ⟨_, rfl, ?_, Zone.tick_cls_congr rfl rfl, Zone.tick_of_enabled⟩
    rw [exec_occupancy_val, min_def_lt]

end Sys2Proof.Machine

/-! # Proofs: the shape of a step

Every command either is a request, whose effect stands between the taking of its line and its reply, or is an event of the
part's own. `moveOf` is what the command does to the blocks, `exec_event` and `exec_request` tie it to `exec`, and an invariant that
taking, replying and every move keep is kept by every step. -/

namespace Sys2Proof.Machine

open Sys2Proof.Safety

/-- The state that a hard reset leaves. -/
def State.hardReset (s : State) : State :=
  { State.reset with
    gates := mapFin (fun _ g => g.resetKeepingLines) s.gates
    evac := { State.reset.evac with line := s.evac.line }
    free := s.free
    pending := s.pending }

/-- A stuck timer that runs expires (R84). -/
def State.stuckExpires (s : State) (g : Fin 32) (beam : Beam) : State :=
  (((s.modifyGate g Gate.toFault).modifySide s.gates[g].src Zone.estimate).modifySide s.gates[g].dst
    Zone.estimate).post (.gateFault g beam s.gates[g].state)

/-- An idle timer that runs expires (R134). -/
def State.idleExpires (s : State) (n : Fin 48) : State :=
  match s.screens[n] with
  | none => s
  | some c => if c.session.idle.isSome then (s.withdraw n c.session).modifySession n Session.expire else s

/-- One second of the timebase (R153, R158). -/
def State.second (s : State) : State :=
  (((List.finRange 8).foldl State.takeExpiry s).advanceClock).countTimers.countIdle

/-- What a command does to the blocks: the effect of a request, without the taking of its line and its reply, and all that
an event does. -/
def moveOf (c : Instr) (s : State) : State :=
  match c with
  | .hardReset => s.hardReset
  | .lineComplete => s.withPort s.port.endLine
  | .assemblyTimerExpiry => if s.port.assembling then s.withPort s.port.discard else s
  | .unknownVerb line => rejectLine line (s.taken (.unknownVerb line))
  | .status _ clear => (statusEffect clear s).1
  | .fetch _ => (fetchEffect s).1
  | .mask _ args => (maskEffect args s).1
  | .start _ => (startEffect s).1
  | .stop _ => (stopEffect s).1
  | .mapClear _ => (mapClearEffect s).1
  | .nodePut _ index args => (nodePutEffect index args s).1
  | .nodeRemove _ index args => (nodeRemoveEffect index args s).1
  | .nodeRead _ index args => (nodeReadEffect index args s).1
  | .segPut _ index args => (segPutEffect index args s).1
  | .segRemove _ index args => (segRemoveEffect index args s).1
  | .segRead _ index args => (segReadEffect index args s).1
  | .segState _ index value => (segStateEffect index value s).1
  | .segTrim _ index trim => (segTrimEffect index trim s).1
  | .liftWait _ group wait => (liftWaitEffect group wait s).1
  | .liftWaitRead _ group => (liftWaitReadEffect group s).1
  | .listingPut _ index args => (listingPutEffect index args s).1
  | .listingRemove _ index args => (listingRemoveEffect index args s).1
  | .override _ listing value target => (overrideEffect listing value target s).1
  | .search _ text category start => (searchEffect text category start s).1
  | .lookup _ listing => (lookupEffect listing s).1
  | .demand _ listing clear => (demandEffect listing clear s).1
  | .screenDeclare _ screen args => (screenDeclareEffect screen args s).1
  | .screenUndeclare _ screen args => (screenUndeclareEffect screen args s).1
  | .screenRead _ screen args => (screenReadEffect screen args s).1
  | .paceWrite _ profile kind value => (paceWriteEffect profile kind value s).1
  | .paceRead _ profile kind => (paceReadEffect profile kind s).1
  | .multWrite _ profile cls value => (multWriteEffect profile cls value s).1
  | .multRead _ profile cls => (multReadEffect profile cls s).1
  | .route _ args => (routeEffect args s).1
  | .routeCancel _ id => (routeCancelEffect id s).1
  | .completionEvent u => s.complete u
  | .beamEvent g beam => if (s.gates[g].beam beam).maturing then s.gateTakes g fun r => r.mature beam else s
  | .pairEvent g =>
    if s.gates[g].a.maturing && s.gates[g].b.maturing then s.gateTakes g fun r => (r.mature .a).mature .b else s
  | .stuckTimerExpiry g beam => if (s.gates[g].beam beam).stuck.isSome then s.stuckExpires g beam else s
  | .recoveryTimerExpiry g =>
    if s.gates[g].recovery then
      (s.modifyGate g fun r => { r with state := .clear, recovery := false }).post (.gateClear g)
    else s
  | .gate _ index args => (gateEffect index args s).1
  | .gateRead _ index clear => (gateReadEffect index clear s).1
  | .zone _ index args => (zoneEffect index args s).1
  | .censusPeriod _ period => (censusPeriodEffect period s).1
  | .censusPeriodRead _ => (censusPeriodReadEffect s).1
  | .censusTick => s.censusTick
  | .zoneClose _ index => (closureEffect index true s).1
  | .zoneOpen _ index => (closureEffect index false s).1
  | .occupancy _ index n => (occupancyEffect index n s).1
  | .censusZero _ => (censusZeroEffect s).1
  | .historyResume _ => (historyResumeEffect s).1
  | .history _ next => (historyEffect next s).1
  | .zoneRead _ index => (zoneReadEffect index s).1
  | .watch _ index args => (watchEffect index args s).1
  | .watchArm _ index => (watchArmEffect index s).1
  | .watchOff _ index => (watchOffEffect index s).1
  | .watchRead _ index => (watchReadEffect index s).1
  | .holdOffExpiry w => if s.watches.watches[w].state = .holdOff then s.modifyWatch w Watch.rearm else s
  | .pulseTimerExpiry l => s.withWatches { s.watches with alerts := s.watches.alerts.set l none }
  | .nav _ screen args => (navEffect screen args s).1
  | .back _ screen => (backEffect false screen s).1
  | .backRestore _ screen => (backEffect true screen s).1
  | .home _ screen => (homeEffect screen s).1
  | .prefs _ screen language profile => (prefsEffect screen language profile s).1
  | .tap _ screen => (tapEffect screen s).1
  | .screenGet _ screen => (screenGetEffect screen s).1
  | .idleTimerExpiry screen => s.idleExpires screen
  | .evacInRise =>
    if s.evac.line && !s.evac.debounced then (s.withEvac { s.evac with debounced := true }).raiseEvac .line else s
  | .evacInFall =>
    if !s.evac.line && s.evac.debounced then (s.withEvac { s.evac with debounced := false }).fallEvac else s
  | .evac _ => (evacEffect s).1
  | .evacEnd _ => (evacEndEffect s).1
  | .timebaseSecond => s.second
  | .cadencePeriodExpiry t => s.takeExpiry t
  | .clock _ weekday minute second => (clockEffect weekday minute second s).1
  | .clockRead _ => (clockReadEffect s).1
  | .cadence _ timer args => (cadenceEffect timer args s).1
  | .cadenceRead _ timer => (cadenceReadEffect timer s).1
  | .cadenceRun _ timer restart => (cadenceRunEffect timer restart s).1
  | .cadenceHalt _ timer => (cadenceHaltEffect timer s).1
  | .characterReceived code damaged =>
    s.withPort (if code = 10 ∧ damaged = false then s.port.endLine else s.port.assemble ⟨code, damaged⟩)
  | .beamLineChange g beam high => s.modifyGate g fun r => r.setBeam beam ((r.beam beam).setLine high)
  | .evacInLineChange high => s.withEvac { s.evac with line := high }
  | .replyTransmitted => s.withPort { s.port with tx := s.port.tx.drop 1 }

theorem exec_event {c : Instr} (s : State) (h : c.tag? = none) : exec c s = .next (moveOf c s) := by
  cases c <;> first | rfl | cases h

theorem exec_request {c : Instr} (s : State) {tag : Nat} (h : c.tag? = some tag) :
    ∃ a, exec c s = .next ((moveOf c (s.taken c)).reply tag a) := by
  cases c <;> cases h <;> exact ⟨_, rfl⟩

/-- A property that the queue of commands does not enter, and that taking a line, every move and a reply keep, is kept by
every step. -/
theorem keptByEveryStep_of_move {p : State → Prop} (hpending : ∀ s l, p s → p { s with pending := l })
    (htaken : ∀ s c, p s → p (s.taken c)) (hreply : ∀ s tag a, p s → p (s.reply tag a))
    (hmove : ∀ c s, p s → p (moveOf c s)) : KeptByEveryStep p := by
  have hexec : ∀ c s t, p s → exec c s = .next t → p t := by
    intro c s t hs ht
    cases hc : c.tag? with
    | none => rw [exec_event s hc] at ht; cases ht; exact hmove c s hs
    | some tag =>
      obtain ⟨a, h⟩ := exec_request s hc
      rw [h] at ht; cases ht
      exact hreply _ tag a (hmove c _ (htaken s c hs))
  intro s t hs ht
  unfold step at ht
  split at ht
  · exact hexec _ _ t (hpending s _ hs) ht
  · split at ht
    · exact hexec _ s t hs ht
    · cases ht; exact hs

end Sys2Proof.Machine

/-! # Proofs: what each command leaves alone

The state is cut into parts; `touches` lists the parts that a command can change, and `moveOf_changes` says that it changes
no other. An invariant about a few parts then has to be shown for the commands that touch one of them alone. -/

namespace Sys2Proof.Machine

open Sys2Proof.Safety

/-- A part of the state, as invariants read it. -/
inductive Part where
  | mode | generation | nodes | segs | listings | nameIndex | liftWaits | pace | mult | decls | sessions
  | entries | units | gates | zones | period | ring | watches | alerts | failures | evacState | due | evacLine | ack
  | dayClock | timers | line | tx | frames | notices | mask | free | waiting
deriving DecidableEq

/-- A part is the same in two states. -/
def Part.same (s t : State) : Part → Prop
  | .mode => t.map.mode = s.map.mode
  | .generation => t.map.generation = s.map.generation
  | .nodes => t.map.nodes = s.map.nodes
  | .segs => t.map.segs = s.map.segs
  | .listings => t.map.listings = s.map.listings
  | .nameIndex => t.map.nameIndex = s.map.nameIndex
  | .liftWaits => t.map.liftWaits = s.map.liftWaits
  | .pace => t.map.pace = s.map.pace
  | .mult => t.map.mult = s.map.mult
  | .decls => (fun n : Fin 48 => (t.screens[n]).map Screen.decl) = fun n => (s.screens[n]).map Screen.decl
  | .sessions => t.screens = s.screens
  | .entries => t.queue = s.queue
  | .units => t.units = s.units
  | .gates => t.gates = s.gates
  | .zones => t.census.zones = s.census.zones
  | .period => t.census.period = s.census.period
  | .ring => (t.census.tick, t.census.ring, t.census.frozen) = (s.census.tick, s.census.ring, s.census.frozen)
  | .watches => t.watches.watches = s.watches.watches
  | .alerts => t.watches.alerts = s.watches.alerts
  | .failures => t.watches.failures = s.watches.failures
  | .evacState => t.evac.state = s.evac.state
  | .due => t.evac.due = s.evac.due
  | .evacLine => (t.evac.line, t.evac.debounced) = (s.evac.line, s.evac.debounced)
  | .ack => t.evac.ack = s.evac.ack
  | .dayClock => t.clock.clock = s.clock.clock
  | .timers => t.clock.timers = s.clock.timers
  | .line => (t.port.rx, t.port.dropping, t.port.hand, t.port.input)
      = (s.port.rx, s.port.dropping, s.port.hand, s.port.input)
  | .tx => t.port.tx = s.port.tx
  | .frames => t.port.frames = s.port.frames
  | .notices => (t.port.notices, t.port.lost) = (s.port.notices, s.port.lost)
  | .mask => t.port.mask = s.port.mask
  | .free => t.free = s.free
  | .waiting => t.pending = s.pending

/-- Two states differ in the parts listed at most. -/
structure Changes (l : List Part) (s t : State) : Prop where
  same : ∀ p : Part, l.contains p = false → p.same s t

theorem Part.same_refl (s : State) (p : Part) : p.same s s := by cases p <;> rfl

theorem Part.same_trans {s t u : State} {p : Part} (h : p.same s t) (k : p.same t u) : p.same s u := by
  cases p <;> exact Eq.trans k h

namespace Changes

theorem refl (l : List Part) (s : State) : Changes l s s := ⟨fun p _ => Part.same_refl s p⟩

theorem trans {l : List Part} {s t u : State} (h : Changes l s t) (k : Changes l t u) : Changes l s u :=
  ⟨fun p hp => Part.same_trans (h.same p hp) (k.same p hp)⟩

theorem mono {l m : List Part} {s t : State} (h : Changes l s t) (hsub : l.all m.contains = true) :
    Changes m s t := by
  refine ⟨fun p hp => h.same p ?_⟩
  by_contra hl
  have hmem : p ∈ l := by simpa using hl
  rw [List.all_eq_true.mp hsub p hmem] at hp
  cases hp

theorem foldl {α : Type} {l : List Part} {f : State → α → State} (h : ∀ s a, Changes l s (f s a)) (xs : List α)
    (s : State) : Changes l s (xs.foldl f s) := by
  induction xs generalizing s with
  | nil => exact refl l s
  | cons a xs ih => exact (h s a).trans (ih _)

theorem checked {l : List Part} {checks : List (Bool × Answer)} {s : State} {take : State → State × Answer}
    (h : Changes l s (take s).1) : Changes l s (checked checks s take).1 := by
  rcases checked_cases checks s take with ⟨a, _, e⟩ | ⟨_, e⟩ <;> rw [e]
  · exact refl l s
  · exact h

theorem ite {l : List Part} {s t u : State} {b : Prop} [Decidable b] (ht : Changes l s t) (hu : Changes l s u) :
    Changes l s (if b then t else u) := by
  split
  · exact ht
  · exact hu

theorem ite_fst {l : List Part} {s : State} {t u : State × Answer} {b : Prop} [Decidable b] (ht : Changes l s t.1)
    (hu : Changes l s u.1) : Changes l s (if b then t else u).1 := by
  split
  · exact ht
  · exact hu

theorem withScreens (s : State) (v : Vector (Option Screen) 48) : Changes [.decls, .sessions] s (s.withScreens v) :=
  ⟨fun p hp => by cases p <;> first | rfl | cases hp⟩

theorem withGates (s : State) (v : Vector Gate 32) : Changes [.gates] s (s.withGates v) := ⟨fun p hp => by cases p <;> first | rfl | cases hp⟩

theorem withZones (s : State) (v : Vector Zone 32) :
    Changes [.zones] s (s.withCensus { s.census with zones := v }) := ⟨fun p hp => by cases p <;> first | rfl | cases hp⟩

theorem withTickZones (s : State) (n : Nat) (v : Vector Zone 32) :
    Changes [.ring, .zones] s (s.withCensus { s.census with tick := n, zones := v }) := ⟨fun p hp => by cases p <;> first | rfl | cases hp⟩

theorem withRing (s : State) (r : List HistoryRecord) :
    Changes [.ring] s (s.withCensus { s.census with ring := r }) := ⟨fun p hp => by cases p <;> first | rfl | cases hp⟩

theorem withWatchRecords (s : State) (v : Vector Watch 8) :
    Changes [.watches] s (s.withWatches { s.watches with watches := v }) := ⟨fun p hp => by cases p <;> first | rfl | cases hp⟩

theorem withAlerts (s : State) (v : Vector (Option (Fin 8)) 4) :
    Changes [.alerts] s (s.withWatches { s.watches with alerts := v }) := ⟨fun p hp => by cases p <;> first | rfl | cases hp⟩

theorem withDue (s : State) (v : Vector Bool 48) : Changes [.due] s (s.withEvac { s.evac with due := v }) := ⟨fun p hp => by cases p <;> first | rfl | cases hp⟩

theorem withTimers (s : State) (v : Vector CadenceTimer 8) :
    Changes [.timers] s (s.withClock { s.clock with timers := v }) := ⟨fun p hp => by cases p <;> first | rfl | cases hp⟩

theorem withNodes (s : State) (t : Table Node) : Changes [.nodes] s (s.withMap { s.map with nodes := t }) :=
  ⟨fun p hp => by cases p <;> first | rfl | cases hp⟩

theorem withListings (s : State) (t : Table Listing) :
    Changes [.listings] s (s.withMap { s.map with listings := t }) := ⟨fun p hp => by cases p <;> first | rfl | cases hp⟩

theorem withListingsIndex (s : State) (t : Table Listing) (x : List (Text × Nat)) :
    Changes [.listings, .nameIndex] s (s.withMap { s.map with listings := t, nameIndex := x }) :=
  ⟨fun p hp => by cases p <;> first | rfl | cases hp⟩

theorem withMode (s : State) (m : EngineMode) : Changes [.mode] s (s.withMap { s.map with mode := m }) :=
  ⟨fun p hp => by cases p <;> first | rfl | cases hp⟩

theorem withModeGeneration (s : State) (m : EngineMode) (g : Nat) :
    Changes [.mode, .generation] s (s.withMap { s.map with mode := m, generation := g }) :=
  ⟨fun p hp => by cases p <;> first | rfl | cases hp⟩

theorem withFrozen (s : State) (x : Bool) :
    Changes [.ring] s (s.withCensus { s.census with frozen := x }) := ⟨fun p hp => by cases p <;> first | rfl | cases hp⟩

theorem withPeriod (s : State) (n : Nat) :
    Changes [.period] s (s.withCensus { s.census with period := n }) := ⟨fun p hp => by cases p <;> first | rfl | cases hp⟩

theorem withFailures (s : State) (n : Nat) :
    Changes [.failures] s (s.withWatches { s.watches with failures := n }) := ⟨fun p hp => by cases p <;> first | rfl | cases hp⟩

theorem withDayClock (s : State) (c : Option DayTime) :
    Changes [.dayClock] s (s.withClock { s.clock with clock := c }) := ⟨fun p hp => by cases p <;> first | rfl | cases hp⟩

theorem withFree (s : State) (n : Nat) : Changes [.free] s { s with free := n } := ⟨fun p hp => by cases p <;> first | rfl | cases hp⟩

theorem withMask (s : State) (m : NoticeMask) :
    Changes [.mask] s (s.withPort { s.port with mask := m }) := ⟨fun p hp => by cases p <;> first | rfl | cases hp⟩

theorem withInput (s : State) (q : Port) (l : List Text) :
    Changes [.line] (s.withPort q) (s.withPort { q with input := l }) := ⟨fun p hp => by cases p <;> first | rfl | cases hp⟩

theorem withRx (s : State) (q : Port) (l : List RxChar) (x : Bool) :
    Changes [.line] (s.withPort q) (s.withPort { q with rx := l, dropping := x }) := ⟨fun p hp => by cases p <;> first | rfl | cases hp⟩

theorem countFrame (s : State) (q : Port) : Changes [.frames] (s.withPort q) (s.withPort q.countFrame) :=
  ⟨fun p hp => by cases p <;> first | rfl | cases hp⟩

theorem withSegs (s : State) (t : Table Seg) : Changes [.segs] s (s.withMap { s.map with segs := t }) := ⟨fun p hp => by cases p <;> first | rfl | cases hp⟩

theorem withLiftWaits (s : State) (v : Vector Nat 16) :
    Changes [.liftWaits] s (s.withMap { s.map with liftWaits := v }) := ⟨fun p hp => by cases p <;> first | rfl | cases hp⟩

theorem withPace (s : State) (v : Vector (Vector Nat 8) 4) :
    Changes [.pace] s (s.withMap { s.map with pace := v }) := ⟨fun p hp => by cases p <;> first | rfl | cases hp⟩

theorem withMult (s : State) (v : Vector (Vector Nat 3) 4) :
    Changes [.mult] s (s.withMap { s.map with mult := v }) := ⟨fun p hp => by cases p <;> first | rfl | cases hp⟩

theorem withCleared (s : State) (v : Vector Nat 16) :
    Changes [.nodes, .segs, .listings, .nameIndex, .liftWaits] s (s.withMap
      { s.map with nodes := [], segs := [], listings := [], nameIndex := [], liftWaits := v }) := ⟨fun p hp => by cases p <;> first | rfl | cases hp⟩

/-- The parts that the route machinery changes. -/
abbrev routes : List Part := [.sessions, .entries, .units, .failures, .due, .notices]

theorem of_routeKeeps {s t : State} (h : RouteKeeps s t) : Changes routes s t := by
  refine ⟨fun p hp => ?_⟩
  cases p <;> first | (cases hp; done) | simp only [Part.same, h.map, h.gates, h.census, h.clock, h.free, h.pending, h.watchRecords,
    h.alerts, h.evacState, h.evacLine, h.evacLevel, h.ack, h.rx, h.dropping, h.hand, h.input, h.tx, h.frames, h.mask, h.decls]

theorem post (s : State) (n : Notice) : Changes [.notices] s (s.post n) := by
  obtain ⟨h1, h2, h3, h4, h5, h6, h7⟩ := s.port.post_frame n
  refine ⟨fun p hp => ?_⟩
  cases p <;> first | (cases hp; done) | rfl | simp only [Part.same, State.post_port, h1, h2, h3, h4, h5, h6, h7]

theorem postAll (s : State) (ns : List Notice) : Changes [.notices] s (s.postAll ns) := foldl post ns s

theorem modifySession (s : State) (n : Fin 48) (f : ScreenDecl → Session → Session) :
    Changes [.sessions] s (s.modifySession n f) := by
  refine ⟨fun p hp => ?_⟩
  cases p <;> first | (cases hp; done) | exact funext (RouteKeeps.modifySession s n f).decls | rfl

theorem mapSessions (s : State) (f : ScreenDecl → Session → Session) : Changes [.sessions] s (s.mapSessions f) := by
  refine ⟨fun p hp => ?_⟩
  cases p with
  | sessions => (cases hp; done)
  | decls =>
    refine funext fun n => ?_
    rw [State.mapSessions_screens, mapFin_get, Option.map_map]
    rfl
  | _ => exact (withScreens s _).same _ rfl

/-! ## Bumps -/

/-- The parts that a bump changes. -/
abbrev bumps : List Part := .generation :: routes

theorem settle (s : State) : Changes routes s s.settle := of_routeKeeps (.settle s)

theorem bumpCore (s : State) : Changes [.generation, .units, .due] s s.bumpCore :=
  have h : ∀ u : Units, Changes [.generation, .units, .due] s
      ((s.withMap { s.map with generation := nextGeneration s.map.generation }).withUnits u) := fun _ => ⟨fun p hp => by cases p <;> first | rfl | cases hp⟩
  ite (ite ((h _).trans ((withDue ..).mono rfl)) (h _)) (refl _ s)

theorem bump (s : State) : Changes bumps s s.bump :=
  ite (((bumpCore s).mono rfl).trans ((settle _).mono rfl)) ((bumpCore s).mono rfl)

theorem bumpIf (s : State) (b : Bool) : Changes bumps s (s.bumpIf b) := ite (bump s) (refl _ s)

/-! ## The map store -/

theorem nodePut (i : Nat) (a : NodeArgs) (s : State) : Changes [.nodes] s (nodePutEffect i a s).1 := by
  refine checked ?_
  split
  · exact refl _ s
  · exact withNodes ..

theorem nodeRemove (i : Nat) (a : NodeArgs) (s : State) : Changes [.nodes] s (nodeRemoveEffect i a s).1 :=
  checked (withNodes ..)

theorem nodeRead (i : Nat) (a : NodeArgs) (s : State) : Changes [] s (nodeReadEffect i a s).1 := by
  refine checked ?_
  split <;> exact refl _ s

theorem segPut (i : Nat) (a : SegArgs) (s : State) : Changes [.segs] s (segPutEffect i a s).1 := by
  refine checked ?_
  split
  · exact refl _ s
  · exact withSegs ..

theorem segRemove (i : Nat) (a : SegArgs) (s : State) : Changes [.segs] s (segRemoveEffect i a s).1 :=
  checked (withSegs ..)

theorem segRead (i : Nat) (a : SegArgs) (s : State) : Changes [] s (segReadEffect i a s).1 := by
  refine checked ?_
  split <;> exact refl _ s

theorem storeSeg (s : State) (i : Nat) (g : Seg) : Changes [.segs] s (s.storeSeg i g) := withSegs ..

theorem segState (i : Nat) (v : OpenState) (s : State) : Changes (.segs :: bumps) s (segStateEffect i v s).1 := by
  refine checked ?_
  split
  · exact refl _ s
  · exact ite (refl _ s) (((storeSeg ..).mono rfl).trans ((bump _).mono rfl))

theorem segTrim (i x : Nat) (s : State) : Changes (.segs :: bumps) s (segTrimEffect i x s).1 := by
  refine checked ?_
  split
  · exact refl _ s
  · exact ((storeSeg ..).mono rfl).trans ((bump _).mono rfl)

theorem liftWait (g w : Nat) (s : State) : Changes (.liftWaits :: bumps) s (liftWaitEffect g w s).1 := by
  refine checked ?_
  split
  · exact refl _ s
  · exact ((withLiftWaits ..).mono rfl).trans ((bump _).mono rfl)

theorem liftWaitRead (g : Nat) (s : State) : Changes [] s (liftWaitReadEffect g s).1 := by
  unfold liftWaitReadEffect
  split <;> exact refl _ s

theorem listingPut (i : Nat) (a : ListingArgs) (s : State) :
    Changes [.listings, .nameIndex] s (listingPutEffect i a s).1 := by
  refine checked ?_
  split
  · exact refl _ s
  · exact withListingsIndex ..

theorem listingRemove (i : Nat) (a : ListingArgs) (s : State) :
    Changes [.listings, .nameIndex] s (listingRemoveEffect i a s).1 :=
  checked (withListingsIndex ..)

theorem override (i : Nat) (w : OverrideWord) (m : Option Nat) (s : State) :
    Changes (.listings :: bumps) s (overrideEffect i w m s).1 := by
  refine checked ?_
  split
  · exact ((withListings ..).mono rfl).trans ((bump _).mono rfl)
  · exact refl _ s

theorem search (t : Text) (c : Option Nat) (n : Nat) (s : State) : Changes [] s (searchEffect t c n s).1 :=
  checked (refl _ s)

theorem lookup (i : Nat) (s : State) : Changes [] s (lookupEffect i s).1 := by
  refine checked ?_
  split <;> exact refl _ s

theorem demand (l c : Option Nat) (s : State) : Changes [.listings] s (demandEffect l c s).1 := by
  refine checked ?_
  split
  · exact ite (withListings ..) (refl _ s)
  · unfold demandOneEffect
    split
    · exact refl _ s
    · exact ite (withListings ..) (refl _ s)

theorem screenDeclare (n : Nat) (a : ScreenArgs) (s : State) :
    Changes [.decls, .sessions] s (screenDeclareEffect n a s).1 := by
  refine checked ?_
  split
  · exact withScreens ..
  · exact refl _ s

theorem screenUndeclare (n : Nat) (a : ScreenArgs) (s : State) :
    Changes [.decls, .sessions] s (screenUndeclareEffect n a s).1 := by
  refine checked ?_
  split
  · exact refl _ s
  · exact ite_fst (withScreens ..) (refl _ s)

theorem screenRead (n : Nat) (a : ScreenArgs) (s : State) : Changes [] s (screenReadEffect n a s).1 := by
  refine checked ?_
  split
  · exact refl _ s
  · split <;> exact refl _ s

theorem mapClear (s : State) :
    Changes [.nodes, .segs, .listings, .nameIndex, .liftWaits, .decls, .sessions] s (mapClearEffect s).1 :=
  checked (((withCleared ..).mono rfl).trans ((withScreens ..).mono rfl))

theorem paceWrite (p : Profile) (k : Option SegKind) (v : Nat) (s : State) :
    Changes (.pace :: bumps) s (paceWriteEffect p k v s).1 := by
  refine checked ?_
  split
  · exact refl _ s
  · exact ((withPace ..).mono rfl).trans ((bumpIf ..).mono rfl)

theorem paceRead (p : Profile) (k : Option SegKind) (s : State) : Changes [] s (paceReadEffect p k s).1 := by
  unfold paceReadEffect
  split <;> exact refl _ s

theorem multWrite (p : Profile) (c : Option ZoneClass) (v : Nat) (s : State) :
    Changes (.mult :: bumps) s (multWriteEffect p c v s).1 := by
  refine checked ?_
  split
  · exact refl _ s
  · exact ((withMult ..).mono rfl).trans ((bumpIf ..).mono rfl)

theorem multRead (p : Profile) (c : Option ZoneClass) (s : State) : Changes [] s (multReadEffect p c s).1 := by
  unfold multReadEffect
  split <;> exact refl _ s

/-! ## Routes -/

theorem countDemand (s : State) (d : Dest) : Changes [.listings] s (s.countDemand d) := by
  unfold State.countDemand
  split
  · split
    · exact refl _ s
    · exact withListings ..
  all_goals exact refl _ s

theorem supersede (s : State) (o : Origin) : Changes routes s (s.supersede o) := by
  unfold State.supersede
  split
  · exact of_routeKeeps (.endScreenEntry ..)
  · exact refl _ s

theorem handId (s : State) (o : Origin) (id : Nat) : Changes [.sessions] s (s.handId o id) := by
  unfold State.handId
  split
  · exact modifySession ..
  · exact refl _ s

theorem acceptRoute (p : Option Profile) (o : Origin) (d : Dest) (s : State) :
    Changes (.listings :: routes) s (acceptRoute p o d s).1 :=
  (((((supersede s o).mono rfl).trans ((countDemand _ d).mono rfl)).trans ((of_routeKeeps (.accept ..)).mono rfl)).trans
    ((handId ..).mono rfl)).trans ((settle _).mono rfl)

theorem route (a : RouteArgs) (s : State) : Changes (.listings :: routes) s (routeEffect a s).1 := by
  refine checked ?_
  split
  · exact acceptRoute ..
  · exact refl _ s

theorem routeCancel (id : Nat) (s : State) : Changes routes s (routeCancelEffect id s).1 := by
  refine checked ?_
  split
  · exact refl _ s
  · split
    · exact refl _ s
    · exact of_routeKeeps ((RouteKeeps.endEntries ..).trans (.settle _))

/-! ## Gates -/

theorem modifyGate (s : State) (g : Fin 32) (f : Gate → Gate) : Changes [.gates] s (s.modifyGate g f) := withGates ..

theorem modifyZone (s : State) (z : Fin 32) (f : Zone → Zone) : Changes [.zones] s (s.modifyZone z f) := withZones ..

theorem modifySide (s : State) (z : Option (Fin 32)) (f : Zone → Zone) : Changes [.zones] s (s.modifySide z f) := by
  unfold State.modifySide
  split
  · exact refl _ s
  · exact modifyZone ..

theorem cross (s : State) (g : Fin 32) (c : Crossing) : Changes [.gates, .zones] s (s.cross g c) := by
  cases c <;> exact (((modifySide ..).mono rfl).trans ((modifySide ..).mono rfl)).trans ((modifyGate ..).mono rfl)

theorem gateTakes (s : State) (g : Fin 32) (f : Gate → Gate) : Changes [.gates, .zones] s (s.gateTakes g f) :=
  ((modifyGate ..).mono rfl).trans (foldl (fun s c => cross s g c) _ _)

theorem stuckExpires (s : State) (g : Fin 32) (beam : Beam) :
    Changes [.gates, .zones, .notices] s (s.stuckExpires g beam) :=
  ((((modifyGate ..).mono rfl).trans ((modifySide ..).mono rfl)).trans ((modifySide ..).mono rfl)).trans ((post ..).mono rfl)

theorem gate (i : Nat) (a : GateArgs) (s : State) : Changes [.gates] s (gateEffect i a s).1 := by
  refine checked ?_
  split
  · exact refl _ s
  · exact ite_fst (refl _ s) (modifyGate ..)

theorem gateRead (i c : Option Nat) (s : State) : Changes [.gates] s (gateReadEffect i c s).1 := by
  refine checked ?_
  split
  · exact ite (withGates ..) (refl _ s)
  · split
    · exact refl _ s
    · exact ite (modifyGate ..) (refl _ s)

/-! ## The census and the watches -/

theorem zone (i : Nat) (a : ZoneArgs) (s : State) : Changes [.zones] s (zoneEffect i a s).1 := by
  unfold zoneEffect
  split
  · exact refl _ s
  · exact checked (modifyZone ..)

theorem setClosed (s : State) (z : Fin 32) (b : Bool) : Changes (.zones :: bumps) s (s.setClosed z b) :=
  ite (refl _ s) (((modifyZone ..).mono rfl).trans ((bump _).mono rfl))

theorem closure (i : Nat) (b : Bool) (s : State) : Changes (.zones :: bumps) s (closureEffect i b s).1 := by
  unfold closureEffect
  split
  · exact refl _ s
  · exact setClosed ..

theorem occupancy (i n : Nat) (s : State) : Changes [.zones] s (occupancyEffect i n s).1 := by
  unfold occupancyEffect
  split
  · exact refl _ s
  · exact modifyZone ..

theorem reportClasses (s : State) (v : Vector Zone 32) : Changes bumps s (s.reportClasses v) :=
  ((postAll ..).mono rfl).trans (bumpIf ..)

theorem censusZero (s : State) : Changes (.zones :: bumps) s (censusZeroEffect s).1 :=
  ((withZones ..).mono rfl).trans ((reportClasses ..).mono rfl)

theorem modifyWatch (s : State) (w : Fin 8) (f : Watch → Watch) : Changes [.watches] s (s.modifyWatch w f) := withWatchRecords ..

theorem returnPredecessor (s : State) (w : Fin 8) : Changes [.watches] s (s.returnPredecessor w) := by
  refine ite ?_ (refl _ s)
  split
  · exact refl _ s
  · exact modifyWatch ..

theorem reportFiring (s : State) (w : Fin 8) (a : WatchAction) (v : Nat) (b : Bool) :
    Changes [.watches, .notices] s (s.reportFiring w a v b) :=
  ((modifyWatch ..).mono rfl).trans ((post ..).mono rfl)

/-- The parts that the evaluation of the watches changes: an APPLY closes a zone and bumps, a FREEZE freezes the ring. -/
abbrev firings : List Part := .zones :: .ring :: .watches :: .alerts :: bumps

theorem fire (s : State) (w : Fin 8) (a : WatchAction) (v : Nat) : Changes firings s (s.fire w a v) := by
  unfold State.fire
  split
  · exact (((reportFiring ..).mono rfl).trans ((modifyWatch ..).mono rfl)).trans ((returnPredecessor ..).mono rfl)
  · exact ((((reportFiring ..).mono rfl).trans ((withAlerts ..).mono rfl)).trans ((modifyWatch ..).mono rfl)).trans ((returnPredecessor ..).mono rfl)
  · exact ((((reportFiring ..).mono rfl).trans ((withFrozen ..).mono rfl)).trans ((modifyWatch ..).mono rfl)).trans ((returnPredecessor ..).mono rfl)
  · exact ((((reportFiring ..).mono rfl).trans ((setClosed ..).mono rfl)).trans ((modifyWatch ..).mono rfl)).trans
      ((returnPredecessor ..).mono rfl)
  · refine trans ?_ ((returnPredecessor ..).mono rfl)
    split
    · exact ((modifyWatch ..).mono rfl)
    · exact ((modifyWatch ..).mono rfl).trans ((modifyWatch ..).mono rfl)

theorem watchTurn (s : State) (w : Fin 8) : Changes firings s (s.watchTurn w) := by
  unfold State.watchTurn
  dsimp only
  split
  · exact ite (ite (fire ..) ((modifyWatch ..).mono rfl)) (refl _ s)
  · exact refl _ s

theorem evaluateWatches (s : State) : Changes firings s s.evaluateWatches := foldl watchTurn _ s

theorem record (s : State) : Changes [.ring] s (s.withCensus s.census.record) := by
  unfold Census.record
  split
  · exact refl _ s
  · exact withRing ..

theorem censusTick (s : State) : Changes firings s s.censusTick :=
  ((((withTickZones ..).mono rfl).trans ((reportClasses ..).mono rfl)).trans ((record _).mono rfl)).trans
    (evaluateWatches _)

theorem censusPeriod (n : Nat) (s : State) : Changes [.period] s (censusPeriodEffect n s).1 := withPeriod ..

theorem historyResume (s : State) : Changes [.ring] s (historyResumeEffect s).1 := withFrozen ..

theorem watch (i : Nat) (a : WatchArgs) (s : State) : Changes [.watches, .alerts] s (watchEffect i a s).1 := by
  refine checked ?_
  split
  · exact ((modifyWatch ..).mono rfl).trans ((withAlerts ..).mono rfl)
  · exact refl _ s

theorem watchArm (i : Nat) (s : State) : Changes [.watches] s (watchArmEffect i s).1 := by
  unfold watchArmEffect
  split
  · exact refl _ s
  · exact ite_fst (modifyWatch ..) (refl _ s)

theorem watchOff (i : Nat) (s : State) : Changes [.watches, .alerts] s (watchOffEffect i s).1 := by
  unfold watchOffEffect
  split
  · exact refl _ s
  · exact ((modifyWatch ..).mono rfl).trans ((withAlerts ..).mono rfl)

/-! ## Sessions -/

theorem withdraw (s : State) (n : Fin 48) (ses : Session) : Changes routes s (s.withdraw n ses) :=
  ite (((modifySession ..).mono rfl).trans (of_routeKeeps (.endScreenEntry ..))) (refl _ s)

theorem takeRequest (s : State) (n : Fin 48) (c : Screen) (b : Bool) (x : ReplyExtras) (f : Session → Session) :
    Changes routes s (takeRequest s n c b x f).1 := by
  have h : Changes routes s (((if b then s.withdraw n c.session else s)).modifySession n
      fun d ses => (f ses).restartIdle d) :=
    (ite (withdraw ..) (refl _ s)).trans ((modifySession ..).mono rfl)
  unfold Machine.takeRequest
  dsimp only
  split <;> exact h

theorem sessionRequest {l : List Part} {n : Nat} {x y z : Bool} {s : State} {act : Fin 48 → Screen → State × Answer}
    (h : ∀ k c, Changes l s (act k c).1) : Changes l s (sessionRequest n x y z s act).1 := by
  unfold Machine.sessionRequest
  split
  · exact refl _ s
  · split
    · exact refl _ s
    · exact checked (h ..)

theorem nav (n : Nat) (a : NavArgs) (s : State) : Changes routes s (navEffect n a s).1 := by
  refine sessionRequest fun k c => ?_
  split
  · exact refl _ s
  · exact takeRequest ..

theorem screenGet (n : Nat) (s : State) : Changes [.free] s (screenGetEffect n s).1 := by
  unfold screenGetEffect
  split
  · exact refl _ s
  · split
    · exact refl _ s
    · exact ite (withFree ..) (refl _ s)

theorem idleExpires (s : State) (n : Fin 48) : Changes routes s (s.idleExpires n) := by
  unfold State.idleExpires
  split
  · exact refl _ s
  · exact ite ((withdraw ..).trans ((modifySession ..).mono rfl)) (refl _ s)

/-! ## Evacuation and service -/

theorem evacTo (s : State) (st : EvacState) : Changes [.evacState] s (s.evacTo st) := ⟨fun p hp => by cases p <;> first | rfl | cases hp⟩
theorem setAck (s : State) (b : Bool) : Changes [.ack] s (s.setAck b) := ⟨fun p hp => by cases p <;> first | rfl | cases hp⟩
theorem clearDue (s : State) : Changes [.due] s s.clearDue := withDue ..
theorem dueAll (s : State) : Changes [.due] s s.dueAll := withDue ..
theorem holdTimers (s : State) : Changes [.timers] s s.holdTimers := withTimers ..
theorem postEvac (s : State) (c : EvacCause) : Changes [.notices] s (s.postEvac c) := post ..
theorem endEntries (s : State) (f : Entry → Bool) (o : RouteOutcome) : Changes routes s (s.endEntries f o) :=
  of_routeKeeps (.endEntries ..)

theorem evacLevel (s : State) (b : Bool) : Changes [.evacLine] s (s.withEvac { s.evac with debounced := b }) := ⟨fun p hp => by cases p <;> first | rfl | cases hp⟩
theorem evacInLine (s : State) (b : Bool) : Changes [.evacLine] s (s.withEvac { s.evac with line := b }) := ⟨fun p hp => by cases p <;> first | rfl | cases hp⟩

/-- The parts that an evacuation event changes. -/
abbrev evacuates : List Part := .evacState :: .ack :: .timers :: bumps

theorem entryEvent (s : State) (c : EvacCause) : Changes evacuates s (s.entryEvent c) :=
  (((((((((evacTo s .active).mono rfl).trans ((endEntries ..).mono rfl)).trans ((mapSessions ..).mono rfl)).trans ((holdTimers _).mono rfl)).trans
    ((bumpCore _).mono rfl)).trans ((dueAll _).mono rfl)).trans ((postEvac ..).mono rfl)).trans ((setAck ..).mono rfl)).trans ((settle _).mono rfl)

theorem exitEvent (s : State) : Changes evacuates s s.exitEvent :=
  ((((((((evacTo s .inactive).mono rfl).trans ((endEntries ..).mono rfl)).trans ((clearDue _).mono rfl)).trans ((mapSessions ..).mono rfl)).trans
    ((bumpCore _).mono rfl)).trans ((postEvac ..).mono rfl)).trans ((setAck ..).mono rfl)).trans ((settle _).mono rfl)

theorem raiseEvac (s : State) (c : EvacCause) : Changes evacuates s (s.raiseEvac c) := by
  unfold State.raiseEvac
  split
  · exact ite (entryEvent ..) (((evacTo ..).mono rfl).trans ((postEvac ..).mono rfl))
  all_goals exact refl _ s

theorem fallEvac (s : State) : Changes [.notices] s s.fallEvac := by
  unfold State.fallEvac
  split
  · exact refl _ s
  all_goals exact postEvac ..

theorem endPending (s : State) : Changes evacuates s s.endPending :=
  ((((evacTo ..).mono rfl).trans ((clearDue _).mono rfl)).trans ((setAck ..).mono rfl)).trans ((postEvac ..).mono rfl)

theorem evacEnd (s : State) : Changes evacuates s (evacEndEffect s).1 := by
  refine checked ?_
  dsimp only
  split
  · exact exitEvent s
  · exact endPending s
  · exact refl _ s

theorem enterService (s : State) : Changes [.mode, .generation, .sessions, .timers] s s.enterService :=
  ((withModeGeneration s .service 0).mono rfl).trans
    (((mapSessions ..).mono rfl).trans ((withTimers ..).mono rfl))

/-- The parts that START and STOP change. -/
abbrev services : List Part := .mode :: evacuates

theorem start (s : State) : Changes services s (startEffect s).1 := by
  refine checked ?_
  split
  · exact refl _ s
  · exact ite (((enterService s).mono rfl).trans ((entryEvent ..).mono rfl)) ((enterService s).mono rfl)

theorem stopEvac (s : State) : Changes evacuates s s.stopEvac :=
  ite ((((evacTo ..).mono rfl).trans ((clearDue _).mono rfl)).trans ((postEvac ..).mono rfl)) (refl _ s)

theorem leaveService (s : State) : Changes services s s.leaveService :=
  (((((endEntries s (fun _ => true) .serviceStopped).mono rfl).trans ((withMode ..).mono rfl)).trans ((mapSessions ..).mono rfl)).trans
    ((withTimers ..).mono rfl)).trans ((stopEvac _).mono rfl)

/-! ## The clock block -/

theorem modifyTimer (s : State) (k : Fin 8) (f : CadenceTimer → CadenceTimer) :
    Changes [.timers] s (s.modifyTimer k f) := withTimers ..

theorem resyncFollowers (s : State) (n : Nat) : Changes [.timers, .notices] s (s.resyncFollowers n) := by
  refine foldl (fun s k => ?_) _ s
  exact ite (((modifyTimer ..).mono rfl).trans ((post ..).mono rfl)) (refl _ s)

theorem takeExpiry (s : State) (k : Fin 8) : Changes [.timers, .notices] s (s.takeExpiry k) := by
  have h : Changes [.timers, .notices] s ((s.modifyTimer k CadenceTimer.stepPage).post
      (.cadence k s.clock.timers[k].stepPage.page false s.clock.timers[k].ends)) :=
    ((modifyTimer ..).mono rfl).trans ((post ..).mono rfl)
  have hexpire : Changes [.timers, .notices] s (s.expirePeriod k) := by
    unfold State.expirePeriod
    exact ite (h.trans (resyncFollowers ..)) h
  exact ite hexpire (refl _ s)

theorem minuteBoundary (s : State) (now : DayTime) (b : Bool) :
    Changes (.dayClock :: .listings :: bumps) s (s.minuteBoundary now b) := by
  unfold State.minuteBoundary
  dsimp only
  refine ite (((withDayClock ..).mono rfl).trans ((withListings ..).mono rfl)) ?_
  exact ((((withDayClock ..).mono rfl).trans ((withListings ..).mono rfl)).trans ((bump _).mono rfl)).trans ((post ..).mono rfl)

theorem advanceClock (s : State) : Changes (.dayClock :: .listings :: bumps) s s.advanceClock := by
  unfold State.advanceClock
  split
  · exact refl _ s
  · exact ite (minuteBoundary ..) ((withDayClock ..).mono rfl)

theorem countTimers (s : State) : Changes [.timers] s s.countTimers := ite (withTimers ..) (refl _ s)

theorem second (s : State) : Changes (.timers :: .dayClock :: .listings :: bumps) s s.second := by
  unfold State.second
  have h : Changes [.timers, .notices] s ((List.finRange 8).foldl State.takeExpiry s) := foldl takeExpiry _ s
  refine (((h.mono rfl).trans ((advanceClock _).mono rfl)).trans ((countTimers _).mono rfl)).trans ?_
  exact ((mapSessions ..).mono rfl)

theorem clock (d m : Nat) (x : Option Nat) (s : State) :
    Changes (.dayClock :: .listings :: bumps) s (clockEffect d m x s).1 := by
  refine checked ?_
  split
  · exact refl _ s
  · exact minuteBoundary ..

theorem clockRead (s : State) : Changes [] s (clockReadEffect s).1 := by
  unfold clockReadEffect
  split <;> exact refl _ s

theorem cadence (i : Nat) (a : CadenceArgs) (s : State) : Changes [.timers] s (cadenceEffect i a s).1 := by
  unfold cadenceEffect
  split
  · exact refl _ s
  · exact checked (modifyTimer ..)

theorem cadenceRead (i : Nat) (s : State) : Changes [] s (cadenceReadEffect i s).1 := by
  unfold cadenceReadEffect
  split <;> exact refl _ s

theorem cadenceRun (i : Nat) (r : Option Nat) (s : State) : Changes [.timers] s (cadenceRunEffect i r s).1 := by
  refine checked ?_
  split
  · exact refl _ s
  · exact modifyTimer ..

theorem cadenceHalt (i : Nat) (s : State) : Changes [.timers] s (cadenceHaltEffect i s).1 := by
  unfold cadenceHaltEffect
  split
  · exact refl _ s
  · exact modifyTimer ..

/-! ## The host port -/

theorem taken (s : State) (c : Instr) : Changes [.line] s (s.taken c) := by
  obtain ⟨_, _, h3, h4, h5, h6, h7⟩ := s.port.answered_frame c
  refine ⟨fun p hp => ?_⟩
  cases p <;> first | (cases hp; done) | rfl | simp only [Part.same, State.taken_port, h3, h4, h5, h6, h7]

theorem reply (s : State) (tag : Nat) (a : Answer) : Changes [.tx] s (s.reply tag a) := ⟨fun p hp => by cases p <;> first | rfl | cases hp⟩

theorem status (c : Option Nat) (s : State) : Changes [.failures] s (statusEffect c s).1 :=
  checked (ite (withFailures ..) (refl _ s))

theorem fetched (s : State) : Changes [.entries, .notices] s s.fetched := ⟨fun p hp => by cases p <;> first | rfl | cases hp⟩

theorem fetch (s : State) : Changes routes s (fetchEffect s).1 := ((fetched s).mono rfl).trans (settle _)

theorem mask (a : MaskArgs) (s : State) : Changes [.mask] s (maskEffect a s).1 := checked (withMask ..)

/-- The parts that a received character changes. -/
abbrev receives : List Part := [.line, .frames, .tx]

theorem refill (s : State) (p : Port) : Changes [.line] (s.withPort p) (s.withPort p.refill) := by
  unfold Port.refill
  split <;> exact ⟨fun p hp => by cases p <;> first | rfl | cases hp⟩

theorem arrive (s : State) (p : Port) (l : Text) : Changes receives (s.withPort p) (s.withPort (p.arrive l)) := by
  unfold Port.arrive
  split
  · exact ((withInput s p _).mono rfl).trans ((refill s _).mono rfl)
  · split <;> exact ⟨fun p hp => by cases p <;> first | rfl | cases hp⟩

theorem judge (s : State) (p : Port) (l : List RxChar) : Changes receives (s.withPort p) (s.withPort (p.judge l)) := by
  unfold Port.judge
  split
  · exact refl _ _
  · split
    · exact arrive ..
    · exact (countFrame ..).mono rfl

theorem endLine (s : State) : Changes receives s (s.withPort s.port.endLine) := by
  unfold Port.endLine
  split
  · exact ((withRx s s.port [] false).mono rfl)
  · exact ((withRx s s.port [] s.port.dropping).mono rfl).trans (judge ..)

theorem discard (s : State) : Changes receives s (s.withPort s.port.discard) := ⟨fun p hp => by cases p <;> first | rfl | cases hp⟩

theorem transmitted (s : State) : Changes [.tx] s (s.withPort { s.port with tx := s.port.tx.drop 1 }) := ⟨fun p hp => by cases p <;> first | rfl | cases hp⟩

theorem rejectLine (l : Text) (s : State) : Changes [.frames, .tx] s (rejectLine l s) := by
  unfold Machine.rejectLine
  split
  · exact (countFrame ..).mono rfl
  · exact ((reply ..).mono rfl)
  · exact ((reply ..).mono rfl)
  · exact refl _ s

theorem assemble (s : State) (c : RxChar) : Changes receives s (s.withPort (s.port.assemble c)) := by
  unfold Port.assemble
  split <;> exact ⟨fun p hp => by cases p <;> first | rfl | cases hp⟩

end Changes

/-! ## Commands -/

open Changes in
/-- The parts that a command's move can change; a hard reset keeps the count of free values and the commands waiting alone,
and is not listed. -/
def touches : Instr → List Part
  | .hardReset => []
  | .lineComplete | .assemblyTimerExpiry | .unknownVerb _ | .characterReceived _ _ => receives
  | .replyTransmitted => [.tx]
  | .status _ _ => [.failures]
  | .fetch _ => routes
  | .mask _ _ => [.mask]
  | .start _ | .stop _ => services
  | .mapClear _ => [.nodes, .segs, .listings, .nameIndex, .liftWaits, .decls, .sessions]
  | .nodePut _ _ _ | .nodeRemove _ _ _ => [.nodes]
  | .segPut _ _ _ | .segRemove _ _ _ => [.segs]
  | .segState _ _ _ | .segTrim _ _ _ => .segs :: bumps
  | .liftWait _ _ _ => .liftWaits :: bumps
  | .listingPut _ _ _ | .listingRemove _ _ _ => [.listings, .nameIndex]
  | .override _ _ _ _ => .listings :: bumps
  | .nodeRead _ _ _ | .segRead _ _ _ | .liftWaitRead _ _ | .search _ _ _ _ | .lookup _ _ | .screenRead _ _ _
  | .paceRead _ _ _ | .multRead _ _ _ | .censusPeriodRead _ | .history _ _ | .zoneRead _ _ | .watchRead _ _
  | .clockRead _ | .cadenceRead _ _ => []
  | .demand _ _ _ => [.listings]
  | .screenDeclare _ _ _ | .screenUndeclare _ _ _ => [.decls, .sessions]
  | .paceWrite _ _ _ _ => .pace :: bumps
  | .multWrite _ _ _ _ => .mult :: bumps
  | .route _ _ => .listings :: routes
  | .routeCancel _ _ | .completionEvent _ => routes
  | .beamEvent _ _ | .pairEvent _ => [.gates, .zones]
  | .stuckTimerExpiry _ _ => [.gates, .zones, .notices]
  | .recoveryTimerExpiry _ => [.gates, .notices]
  | .gate _ _ _ | .gateRead _ _ _ | .beamLineChange _ _ _ => [.gates]
  | .zone _ _ _ | .occupancy _ _ _ => [.zones]
  | .censusPeriod _ _ => [.period]
  | .censusTick => firings
  | .zoneClose _ _ | .zoneOpen _ _ | .censusZero _ => .zones :: bumps
  | .historyResume _ => [.ring]
  | .watch _ _ _ | .watchOff _ _ => [.watches, .alerts]
  | .watchArm _ _ | .holdOffExpiry _ => [.watches]
  | .pulseTimerExpiry _ => [.alerts]
  | .nav _ _ _ | .back _ _ | .backRestore _ _ | .home _ _ | .prefs _ _ _ _ | .tap _ _ | .idleTimerExpiry _ => routes
  | .screenGet _ _ => [.free]
  | .evacInRise => .evacLine :: evacuates
  | .evacInFall => [.evacLine, .notices]
  | .evacInLineChange _ => [.evacLine]
  | .evac _ | .evacEnd _ => evacuates
  | .timebaseSecond => .timers :: .dayClock :: .listings :: bumps
  | .cadencePeriodExpiry _ => [.timers, .notices]
  | .clock _ _ _ _ => .dayClock :: .listings :: bumps
  | .cadence _ _ _ | .cadenceRun _ _ _ | .cadenceHalt _ _ => [.timers]

/-- A command other than a hard reset changes the parts it touches alone (but for UNKNOWN_VERB's row, which also takes its
line). -/
theorem moveOf_changes (c : Instr) (s : State) (h : c ≠ .hardReset) : Changes (touches c) s (moveOf c s) := by
  cases c with
  | hardReset => exact absurd rfl h
  | lineComplete => exact .endLine s
  | assemblyTimerExpiry => exact .ite (.discard s) (.refl _ s)
  | unknownVerb l => exact ((Changes.taken ..).mono rfl).trans ((Changes.rejectLine ..).mono rfl)
  | status _ c => exact .status c s
  | fetch => exact .fetch s
  | mask _ a => exact .mask a s
  | start => exact .start s
  | stop => exact .checked (.leaveService s)
  | mapClear => exact .mapClear s
  | nodePut _ i a => exact .nodePut i a s
  | nodeRemove _ i a => exact .nodeRemove i a s
  | nodeRead _ i a => exact .nodeRead i a s
  | segPut _ i a => exact .segPut i a s
  | segRemove _ i a => exact .segRemove i a s
  | segRead _ i a => exact .segRead i a s
  | segState _ i v => exact .segState i v s
  | segTrim _ i x => exact .segTrim i x s
  | liftWait _ g w => exact .liftWait g w s
  | liftWaitRead _ g => exact .liftWaitRead g s
  | listingPut _ i a => exact .listingPut i a s
  | listingRemove _ i a => exact .listingRemove i a s
  | override _ i w m => exact .override i w m s
  | search _ t c n => exact .search t c n s
  | lookup _ i => exact .lookup i s
  | demand _ l c => exact .demand l c s
  | screenDeclare _ n a => exact .screenDeclare n a s
  | screenUndeclare _ n a => exact .screenUndeclare n a s
  | screenRead _ n a => exact .screenRead n a s
  | paceWrite _ p k v => exact .paceWrite p k v s
  | paceRead _ p k => exact .paceRead p k s
  | multWrite _ p c v => exact .multWrite p c v s
  | multRead _ p c => exact .multRead p c s
  | route _ a => exact .route a s
  | routeCancel _ id => exact .routeCancel id s
  | completionEvent u => exact .of_routeKeeps (.complete s u)
  | beamEvent => exact .ite (.gateTakes ..) (.refl _ s)
  | pairEvent => exact .ite (.gateTakes ..) (.refl _ s)
  | stuckTimerExpiry => exact .ite (.stuckExpires ..) (.refl _ s)
  | recoveryTimerExpiry => exact .ite (((Changes.modifyGate ..).mono rfl).trans ((Changes.post ..).mono rfl)) (.refl _ s)
  | gate _ i a => exact .gate i a s
  | gateRead _ i c => exact .gateRead i c s
  | zone _ i a => exact .zone i a s
  | censusPeriod _ n => exact .censusPeriod n s
  | censusPeriodRead => exact .refl _ s
  | censusTick => exact .censusTick s
  | zoneClose _ i => exact .closure i true s
  | zoneOpen _ i => exact .closure i false s
  | occupancy _ i n => exact .occupancy i n s
  | censusZero => exact .censusZero s
  | historyResume => exact .historyResume s
  | history => exact .checked (.refl _ s)
  | zoneRead _ i => cases i <;> simp only [moveOf, zoneReadEffect] <;> first | exact .refl _ s | (split <;> exact .refl _ s)
  | watch _ i a => exact .watch i a s
  | watchArm _ i => exact .watchArm i s
  | watchOff _ i => exact .watchOff i s
  | watchRead _ i => cases i <;> simp only [moveOf, watchReadEffect] <;> first | exact .refl _ s | (split <;> exact .refl _ s)
  | holdOffExpiry => exact .ite (.modifyWatch ..) (.refl _ s)
  | pulseTimerExpiry => exact .withAlerts ..
  | nav _ n a => exact .nav n a s
  | back | backRestore | home | prefs | tap => exact .sessionRequest fun _ _ => .takeRequest ..
  | screenGet _ n => exact .screenGet n s
  | idleTimerExpiry n => exact .idleExpires s n
  | evacInRise => exact .ite (((Changes.evacLevel ..).mono rfl).trans ((Changes.raiseEvac ..).mono rfl)) (.refl _ s)
  | evacInFall => exact .ite (((Changes.evacLevel ..).mono rfl).trans ((Changes.fallEvac _).mono rfl)) (.refl _ s)
  | evacInLineChange => exact .evacInLine ..
  | evac => exact .raiseEvac s .host
  | evacEnd => exact .evacEnd s
  | timebaseSecond => exact .second s
  | cadencePeriodExpiry k => exact .takeExpiry s k
  | clock _ d m x => exact .clock d m x s
  | clockRead => exact .clockRead s
  | cadence _ i a => exact .cadence i a s
  | cadenceRead _ i => exact .cadenceRead i s
  | cadenceRun _ i r => exact .cadenceRun i r s
  | cadenceHalt _ i => exact .cadenceHalt i s
  | characterReceived =>
    simp only [moveOf]
    split
    · exact .endLine s
    · exact .assemble ..
  | beamLineChange => exact .modifyGate ..
  | replyTransmitted => exact .transmitted s

end Sys2Proof.Machine

/-! # Proofs: gate records -/

namespace Sys2Proof.Machine

open Sys2Proof.Safety

/-! ## What an event makes of a gate record (R77 to R85) -/

theorem nextState_ne_fault {st : GateState} (h : st ≠ .fault) (v : Bool × Bool) : nextState st v ≠ .fault := by
  obtain ⟨x, y⟩ := v
  cases st <;> cases x <;> cases y <;> first | exact absurd rfl h | nofun

theorem decodeEvent_ne_fault {m : GateMode} {st : GateState} (h : st ≠ .fault) (x y : Bool × Bool) :
    (decodeEvent m st x y).1 ≠ .fault := by
  cases m with
  | off => exact h
  | pulse => nofun
  | twoWay | oneWay => exact nextState_ne_fault h y

/-- A stuck timer that ran exactly while its beam was blocked does so after an event (R83). -/
theorem BeamInput.stuckAfter_stuck {x : BeamInput} {limit : Nat} {before : Bool} (after : Bool)
    (h : x.stuck = if before then some limit else none) :
    (x.stuckAfter limit before after).stuck = if after then some limit else none := by
  unfold BeamInput.stuckAfter
  cases before <;> cases after <;> simp_all

theorem BeamInput.stuckAfter_debounced (x : BeamInput) (limit : Nat) (before after : Bool) :
    (x.stuckAfter limit before after).debounced = x.debounced := by
  unfold BeamInput.stuckAfter
  cases before <;> cases after <;> rfl

theorem Gate.levels_stuckAfter (g : Gate) (v w : Bool × Bool) : (g.stuckAfter v w).levels = g.levels := by
  simp only [Gate.levels, Gate.stuckAfter, BeamInput.blocked, BeamInput.stuckAfter_debounced]

/-- A record that differs from another in the debounced levels alone. -/
def Gate.Relevelled (x y : Gate) : Prop :=
  y = { x with a := { x.a with debounced := y.a.debounced }, b := { x.b with debounced := y.b.debounced } }

/-- A sound gate that takes an event is sound (R77, R81, R83, R85). -/
theorem gateSound_take {x y : Gate} (hx : GateSound x) (hy : x.Relevelled y) : GateSound (Gate.take x y).1 := by
  obtain ⟨hlimit, hclash, hoff, hpulse, ha, hb, hrec⟩ := hx
  have hmode : y.mode = x.mode := by rw [hy]
  have hstate : y.state = x.state := by rw [hy]
  have hlim : y.stuckLimit = x.stuckLimit := by rw [hy]
  have hsides : y.sidesClash = x.sidesClash := by rw [hy]; rfl
  have hsa : y.a.stuck = x.a.stuck := by rw [hy]
  have hsb : y.b.stuck = x.b.stuck := by rw [hy]
  have hyrec : y.recovery = x.recovery := by rw [hy]
  unfold Gate.take
  split
  · next hm =>
    have hx' : x.mode = .off := hmode ▸ hm
    have hd : Safety.Gate.decodes x = false := by simp [Safety.Gate.decodes, hx']
    have hd' : Safety.Gate.decodes y = false := by simp [Safety.Gate.decodes, hm]
    refine ⟨by rwa [hlim], by rwa [hsides], fun h => hstate.trans (hoff hx'), fun h => by simp [hm] at h, ?_, ?_, ?_⟩
    · simp [hsa, ha, hd, hd']
    · simp [hsb, hb, hd, hd']
    · rw [hyrec, hrec, hstate, hoff hx']; rfl
  · next hm =>
    have hx' : x.mode ≠ .off := hmode ▸ hm
    split
    · next hf =>
      have hxf : x.state = .fault := hstate ▸ hf
      have hd : Safety.Gate.decodes x = false := by simp [Safety.Gate.decodes, hxf]
      refine ⟨by rwa [hlim], by rwa [← hsides] at hclash, fun h => absurd h hm, fun _ => .inr hf, ?_, ?_, ?_⟩
      · simp [Safety.Gate.decodes, hf, hsa, ha, hxf]
      · simp [Safety.Gate.decodes, hf, hsb, hb, hxf]
      · simp [hf, Gate.levels]
    · next hf =>
      have hxf : x.state ≠ .fault := hstate ▸ hf
      have hd : Safety.Gate.decodes x = true := by simp [Safety.Gate.decodes, hxf, hx']
      have hnf := decodeEvent_ne_fault (m := y.mode) hf x.levels y.levels
      have hlv : Gate.levels { y.stuckAfter x.levels y.levels with
          state := (decodeEvent y.mode y.state x.levels y.levels).1 } = y.levels := Gate.levels_stuckAfter ..
      refine ⟨by simpa [Gate.stuckAfter, hlim] using hlimit, hsides.trans hclash, fun h => absurd h hm, fun h => .inl ?_,
        ?_, ?_, ?_⟩
      · have : y.mode = .pulse := h
        simp [this, decodeEvent]
      · rw [hlv]
        have := BeamInput.stuckAfter_stuck (x := y.a) (limit := y.stuckLimit) (before := x.levels.1) y.levels.1
          (by rw [hsa, ha, hd, hlim]; simp)
        simpa [Gate.stuckAfter, Safety.Gate.decodes, hm, hnf] using this
      · rw [hlv]
        have := BeamInput.stuckAfter_stuck (x := y.b) (limit := y.stuckLimit) (before := x.levels.2) y.levels.2
          (by rw [hsb, hb, hd, hlim]; simp)
        simpa [Gate.stuckAfter, Safety.Gate.decodes, hm, hnf] using this
      · have hx0 : x.recovery = false := by rw [hrec]; simp [hxf]
        simp [Gate.stuckAfter, hyrec, hx0, hnf]

theorem Gate.mature_relevelled (x : Gate) (beam : Beam) : x.Relevelled (x.mature beam) := by cases beam <;> rfl

theorem Gate.mature_both_relevelled (x : Gate) : x.Relevelled ((x.mature .a).mature .b) := rfl

/-! ## The other changes of a record -/

theorem gateSound_reset (x : Gate) : GateSound x.resetKeepingLines := by
  unfold GateSound
  exact ⟨⟨Nat.le_of_ble_eq_true rfl, Nat.le_of_ble_eq_true rfl⟩, rfl, fun _ => rfl, nofun, rfl, rfl, rfl⟩

theorem gateSound_setLine {x : Gate} (h : GateSound x) (beam : Beam) (high : Bool) :
    GateSound (x.setBeam beam ((x.beam beam).setLine high)) := by
  cases beam <;> exact h

theorem gateSound_counted {x : Gate} (h : GateSound x) (i o : Nat) (f : Bool) :
    GateSound { x with inbound := i, outbound := o, fault := f } := h

/-- A stuck timer that runs tells that the gate decodes and that its beam is blocked (R83). -/
theorem gateSound_decodes_of_stuck {x : Gate} (h : GateSound x) {beam : Beam} (hs : (x.beam beam).stuck.isSome = true) :
    Safety.Gate.decodes x = true ∧ x.levels ≠ (false, false) := by
  obtain ⟨_, _, _, _, ha, hb, _⟩ := h
  cases hd : Safety.Gate.decodes x with
  | false => cases beam <;> simp [Gate.beam, ha, hb, hd] at hs
  | true =>
    refine ⟨rfl, fun hl => ?_⟩
    cases beam <;> simp [Gate.beam, ha, hb, hl] at hs

/-- FAULT stops every timer of a gate (R84). -/
theorem gateSound_toFault {x : Gate} (h : GateSound x) {beam : Beam} (hs : (x.beam beam).stuck.isSome = true) :
    GateSound x.toFault := by
  obtain ⟨hd, hl⟩ := gateSound_decodes_of_stuck h hs
  obtain ⟨hlimit, hclash, _, _, _, _, _⟩ := h
  have hoff : x.mode ≠ .off := by
    intro hm
    simp [Safety.Gate.decodes, hm] at hd
  have hd' : Safety.Gate.decodes x.toFault = false := by simp [Safety.Gate.decodes, Gate.toFault]
  refine ⟨hlimit, hclash, fun h => absurd h hoff, fun _ => .inr rfl, ?_, ?_, ?_⟩
  · simp [hd']; rfl
  · simp [hd']; rfl
  · change false = (GateState.fault == .fault && x.levels == (false, false))
    simp [hl]

/-- A gate whose recovery timer ran starts decoding with both beams clear (R86). -/
theorem gateSound_recover {x : Gate} (h : GateSound x) (hr : x.recovery = true) :
    GateSound { x with state := .clear, recovery := false } := by
  obtain ⟨hlimit, hclash, _, _, ha, hb, hrec⟩ := h
  simp only [hr, Eq.comm (a := true), Bool.and_eq_true, beq_iff_eq] at hrec
  obtain ⟨hf, hl⟩ := hrec
  have hl' : Gate.levels { x with state := .clear, recovery := false } = (false, false) := hl
  refine ⟨hlimit, hclash, fun _ => rfl, fun _ => .inl rfl, ?_, ?_, rfl⟩
  · simp [hl', ha, Safety.Gate.decodes, hf]
  · simp [hl', hb, Safety.Gate.decodes, hf]

/-- A configuration in range leaves a gate sound: its sides differ, and timers run for the beams blocked (R88). -/
theorem gateSound_configure {x : Gate} (h : GateSound x) {i : Nat} {a : GateArgs} (hr : gateInRange i a = true)
    (hc : (x.configure a).sidesClash = false) : GateSound (x.configure a).restart := by
  obtain ⟨hlimit, _⟩ := h
  have hlimit' : 1 ≤ (x.configure a).stuckLimit ∧ (x.configure a).stuckLimit ≤ 255 := by
    simp only [gateInRange, Bool.and_eq_true] at hr
    obtain ⟨_, hs⟩ := hr
    cases hst : a.stuck with
    | none => simpa [Gate.configure, hst] using hlimit
    | some n => simpa [Gate.configure, hst, optWithin, within] using hs
  generalize x.configure a = y at hc hlimit'
  unfold Gate.restart
  dsimp only
  split
  · next hm =>
    have hm : y.mode = .off := hm
    refine ⟨hlimit', hc, fun _ => rfl, fun _ => .inl rfl, ?_, ?_, rfl⟩ <;> simp [Safety.Gate.decodes, Gate.stopStuck, hm]
  · next hm =>
    have hm : y.mode ≠ .off := hm
    refine ⟨hlimit', hc, fun h => absurd h hm, fun _ => .inl rfl, ?_, ?_, rfl⟩
    · rw [Gate.levels_stuckAfter]
      have := BeamInput.stuckAfter_stuck (x := { y.a with stuck := none }) (limit := y.stuckLimit) (before := false)
        y.levels.1 rfl
      simpa [Safety.Gate.decodes, hm, Gate.stuckAfter, Gate.stopStuck, Gate.levels, BeamInput.blocked] using this
    · rw [Gate.levels_stuckAfter]
      have := BeamInput.stuckAfter_stuck (x := { y.b with stuck := none }) (limit := y.stuckLimit) (before := false)
        y.levels.2 rfl
      simpa [Safety.Gate.decodes, hm, Gate.stuckAfter, Gate.stopStuck, Gate.levels, BeamInput.blocked] using this

/-! ## All gates -/

theorem gatesSound_of_gates {s t : State} (h : t.gates = s.gates) (hs : GatesSound s) : GatesSound t := by
  intro g
  rw [h]
  exact hs g

theorem gatesSound_modifyGate {s : State} (hs : GatesSound s) {g : Fin 32} {f : Gate → Gate}
    (hf : GateSound (f s.gates[g])) : GatesSound (s.modifyGate g f) := by
  intro k
  rw [State.modifyGate_gates, modifyAt_get]
  split
  · next h => exact h ▸ hf
  · exact hs k

theorem gatesSound_cross {s : State} (hs : GatesSound s) (g : Fin 32) (c : Crossing) : GatesSound (s.cross g c) := by
  have hside : ∀ {t : State} (z : Option (Fin 32)) (f : Zone → Zone), GatesSound t → GatesSound (t.modifySide z f) :=
    fun z f ht => gatesSound_of_gates ((Changes.modifySide _ z f).same .gates rfl) ht
  cases c <;> exact gatesSound_modifyGate (hside _ _ (hside _ _ hs)) (gateSound_counted (hside _ _ (hside _ _ hs) g) ..)

theorem gatesSound_gateTakes {s : State} (hs : GatesSound s) (g : Fin 32) {f : Gate → Gate}
    (hf : s.gates[g].Relevelled (f s.gates[g])) : GatesSound (s.gateTakes g f) := by
  have hcross : ∀ (cs : List Crossing) (t : State), GatesSound t → GatesSound (cs.foldl (fun t c => t.cross g c) t) := by
    intro cs
    induction cs with
    | nil => exact fun _ ht => ht
    | cons c cs ih => exact fun t ht => ih _ (gatesSound_cross ht g c)
  exact hcross _ _ (gatesSound_modifyGate hs (gateSound_take (hs g) hf))

theorem gatesSound_of_untouched {c : Instr} {s : State} (h : c ≠ .hardReset) (hc : (touches c).contains .gates = false)
    (hs : GatesSound s) : GatesSound (moveOf c s) :=
  gatesSound_of_gates ((moveOf_changes c s h).same .gates hc) hs

theorem gatesSound_move (c : Instr) {s : State} (hs : GatesSound s) : GatesSound (moveOf c s) := by
  cases c with
  | hardReset =>
    intro g
    have : (State.hardReset s).gates[g] = s.gates[g].resetKeepingLines := mapFin_get ..
    exact this ▸ gateSound_reset _
  | beamEvent g beam =>
    simp only [moveOf]
    split
    · exact gatesSound_gateTakes hs g (Gate.mature_relevelled _ _)
    · exact hs
  | pairEvent g =>
    simp only [moveOf]
    split
    · exact gatesSound_gateTakes hs g (Gate.mature_both_relevelled _)
    · exact hs
  | stuckTimerExpiry g beam =>
    simp only [moveOf]
    split
    · next h =>
      refine gatesSound_of_gates ?_ (gatesSound_modifyGate hs (g := g) (gateSound_toFault (hs g) h))
      exact (((Changes.modifySide ..).mono rfl).trans ((Changes.modifySide ..).mono rfl) |>.trans
        ((Changes.post ..).mono rfl) : Changes [.zones, .notices] _ _).same .gates rfl
    · exact hs
  | recoveryTimerExpiry g =>
    simp only [moveOf]
    split
    · next h => exact gatesSound_of_gates (State.post_gates ..) (gatesSound_modifyGate hs (g := g) (gateSound_recover (hs g) h))
    · exact hs
  | gate _ i a =>
    simp only [moveOf, gateEffect]
    rcases checked_cases [inRange (gateInRange i a)] s _ with ⟨_, _, e⟩ | ⟨hr, e⟩ <;> rw [e]
    · exact hs
    · have hr : gateInRange i a = true := (firstFailing_none _).mp hr _ List.mem_cons_self
      split
      · exact hs
      · split
        · exact hs
        · next g _ hc => exact gatesSound_modifyGate hs (gateSound_configure (hs g) hr (by simpa using hc))
  | gateRead _ i c =>
    simp only [moveOf, gateReadEffect]
    rcases checked_cases [inRange (optLe 31 i && optLe 1 c)] s _ with ⟨_, _, e⟩ | ⟨_, e⟩ <;> rw [e]
    · exact hs
    · have hclear : ∀ {x : Gate}, GateSound x → GateSound x.clearTotals := fun h => gateSound_counted h ..
      split
      · dsimp only
        split
        · intro g
          rw [State.withGates_gates, mapFin_get]
          exact hclear (hs g)
        · exact hs
      · split
        · exact hs
        · dsimp only
          split
          · exact gatesSound_modifyGate hs (hclear (hs _))
          · exact hs
  | beamLineChange g beam high => exact gatesSound_modifyGate hs (gateSound_setLine (hs g) beam high)
  | _ => exact gatesSound_of_untouched nofun rfl hs

/-- Settles O11: every change of a gate record keeps it sound, and the other commands touch none. -/
theorem everyStepKeepsGatesSound : Obligations.EveryStepKeepsGatesSound :=
  keptByEveryStep_of_move (fun _ _ h => h) (fun s c => gatesSound_of_gates (State.taken_gates s c))
    (fun s tag a => gatesSound_of_gates (State.reply_gates s tag a)) fun c _ h => gatesSound_move c h

end Sys2Proof.Machine

/-! # Proofs: the census -/

namespace Sys2Proof.Machine

open Sys2Proof.Safety

/-! ## Zone records (R91 to R97) -/

theorem zoneSound_reset : ZoneSound Zone.reset := by unfold ZoneSound; decide

theorem zoneSound_enter {z : Zone} (h : ZoneSound z) : ZoneSound z.enter := by
  unfold Zone.enter
  split <;> exact h

theorem zoneSound_leave {z : Zone} (h : ZoneSound z) : ZoneSound z.leave := by
  unfold Zone.leave
  split <;> exact h

theorem zoneSound_classify {z : Zone} (h : ZoneSound z) (he : z.enable = .enabled) : ZoneSound z.classify := by
  obtain ⟨hbusy, hcrowded, hmargin, hhold, hbelow, _, _⟩ := h
  unfold Zone.classify ZoneSound
  split
  · simp only [he]; exact ⟨hbusy, hcrowded, hmargin, hhold, by omega, nofun, nofun⟩
  · split
    · split
      · simp only [he]; exact ⟨hbusy, hcrowded, hmargin, hhold, by omega, nofun, nofun⟩
      · simp only [he]; exact ⟨hbusy, hcrowded, hmargin, hhold, by omega, nofun, nofun⟩
    · simp only [he]; exact ⟨hbusy, hcrowded, hmargin, hhold, by omega, nofun, nofun⟩

theorem zoneSound_bringDown {z : Zone} (h : ZoneSound z) (he : z.enable = .disabling) : ZoneSound z.bringDown := by
  obtain ⟨hbusy, hcrowded, hmargin, hhold, hbelow, _, hdown⟩ := h
  obtain ⟨_, hzero⟩ := hdown he
  unfold Zone.bringDown ZoneSound
  by_cases hc : classDown z.cls = .clear
  · simp only [hc, if_true]
    exact ⟨hbusy, hcrowded, hmargin, hhold, hbelow, fun _ => trivial, nofun⟩
  · simp only [hc, if_false, he]
    exact ⟨hbusy, hcrowded, hmargin, hhold, hbelow, nofun, fun _ => ⟨hc, hzero⟩⟩

theorem zoneSound_tick {z : Zone} (h : ZoneSound z) : ZoneSound z.tick := by
  unfold Zone.tick
  split
  · next he => exact zoneSound_classify h he
  · next he => exact zoneSound_bringDown h he
  · exact h

theorem zoneSound_zeroed {z : Zone} (h : ZoneSound z) : ZoneSound z.zeroed := by
  obtain ⟨hbusy, hcrowded, hmargin, hhold, _, _, _⟩ := h
  refine ⟨hbusy, hcrowded, hmargin, hhold, show 0 < z.hold by omega, fun _ => rfl, fun h => ?_⟩
  cases he : z.enable <;> simp [Zone.zeroed, he] at h

theorem zoneSound_storeLimits {z : Zone} (h : ZoneSound z) {i : Nat} {a : ZoneArgs} (hr : zoneInRange i z a = true) :
    ZoneSound (z.storeLimits a) := by
  obtain ⟨_, _, hmargin, _, hbelow, hoff, hdown⟩ := h
  simp only [zoneInRange, within, Bool.and_eq_true, decide_eq_true_eq] at hr
  obtain ⟨⟨⟨⟨_, hbusy⟩, hcrowded⟩, hlt⟩, hm⟩ := hr
  have hm' : (z.given a).margin ≤ 999 := by
    show a.margin.getD z.margin ≤ 999
    cases ha : a.margin with
    | none => exact hmargin.1
    | some m => simpa [ha, optLe] using hm
  have hhold : 1 ≤ (z.given a).hold ∧ (z.given a).hold ≤ 60 := clampTo_bounds (by decide) _
  unfold Zone.storeLimits
  dsimp only
  split
  · next hsame =>
    simp only [Zone.sameLimits, Bool.and_eq_true, beq_iff_eq] at hsame
    obtain ⟨_, hh⟩ := hsame
    refine ⟨hbusy, ⟨hlt, hcrowded⟩, ⟨(Nat.min_le_left ..).trans hm', Nat.min_le_right ..⟩, hhold, ?_, hoff, hdown⟩
    show z.below < (z.given a).clampMargin.hold
    omega
  · refine ⟨hbusy, ⟨hlt, hcrowded⟩, ⟨(Nat.min_le_left ..).trans hm', Nat.min_le_right ..⟩, hhold, ?_, hoff, ?_⟩
    · show 0 < (z.given a).hold
      omega
    · exact fun he => ⟨(hdown he).1, rfl⟩

theorem zoneSound_setEnable {z : Zone} (h : ZoneSound z) (e : Option Nat) : ZoneSound (z.setEnable e) := by
  obtain ⟨hbusy, hcrowded, hmargin, hhold, hbelow, hoff, hdown⟩ := h
  unfold Zone.setEnable
  split
  · exact ⟨hbusy, hcrowded, hmargin, hhold, hbelow, hoff, hdown⟩
  · split
    · unfold Zone.turnOn
      split
      · exact ⟨hbusy, hcrowded, hmargin, hhold, hbelow, hoff, hdown⟩
      all_goals exact ⟨hbusy, hcrowded, hmargin, hhold, show 0 < z.hold by omega, nofun, nofun⟩
    · unfold Zone.turnOff
      split
      · exact ⟨hbusy, hcrowded, hmargin, hhold, hbelow, hoff, hdown⟩
      · exact ⟨hbusy, hcrowded, hmargin, hhold, hbelow, hoff, hdown⟩
      · unfold ZoneSound
        by_cases hc : z.cls = .clear
        · simp only [hc, if_true]
          exact ⟨hbusy, hcrowded, hmargin, hhold, by omega, fun _ => trivial, nofun⟩
        · simp only [hc, if_false]
          exact ⟨hbusy, hcrowded, hmargin, hhold, by omega, nofun, fun _ => ⟨hc, trivial⟩⟩

/-! ## The history ring (R104) -/

theorem recordSound_historyRecord (c : Census) : RecordSound (historyRecord c) := by
  simp [RecordSound, historyRecord]

theorem pushRecord_length {ring : List HistoryRecord} (h : ring.length ≤ 64) (r : HistoryRecord) :
    (pushRecord ring r).length ≤ 64 := by
  unfold pushRecord
  split <;> simp <;> omega

theorem mem_pushRecord {ring : List HistoryRecord} {r q : HistoryRecord} (h : q ∈ pushRecord ring r) :
    q ∈ ring ∨ q = r := by
  unfold pushRecord at h
  split at h
  · simpa using h
  · rcases List.mem_append.mp h with h | h
    · exact .inl (List.mem_of_mem_drop h)
    · exact .inr (by simpa using h)

/-! ## The census block -/

theorem censusSound_of_changes {l : List Part} {s t : State} (h : Changes l s t) (hz : l.contains .zones = false)
    (hp : l.contains .period = false) (hr : l.contains .ring = false) (hs : CensusSound s) : CensusSound t := by
  have hzones : t.census.zones = s.census.zones := h.same .zones hz
  have hperiod : t.census.period = s.census.period := h.same .period hp
  have hring := h.same .ring hr
  simp only [Part.same, Prod.mk.injEq] at hring
  obtain ⟨_, hring, _⟩ := hring
  simpa only [CensusSound, hzones, hperiod, hring] using hs

theorem censusSound_withZones {s : State} (hs : CensusSound s) {c : Census} (hz : ∀ z : Fin 32, ZoneSound c.zones[z])
    (hp : c.period = s.census.period) (hr : c.ring = s.census.ring) : CensusSound (s.withCensus c) := by
  obtain ⟨_, hperiod, hring⟩ := hs
  exact ⟨hz, by rw [State.withCensus_census, hp]; exact hperiod, by rw [State.withCensus_census, hr]; exact hring⟩

theorem censusSound_modifyZone {s : State} (hs : CensusSound s) (z : Fin 32) {f : Zone → Zone}
    (hf : ZoneSound s.census.zones[z] → ZoneSound (f s.census.zones[z])) : CensusSound (s.modifyZone z f) := by
  refine censusSound_withZones hs (fun k => ?_) rfl rfl
  rw [modifyAt_get]
  split
  · next h => exact h ▸ hf (hs.1 z)
  · exact hs.1 k

theorem censusSound_modifySide {s : State} (hs : CensusSound s) (side : Option (Fin 32)) {f : Zone → Zone}
    (hf : ∀ z, ZoneSound z → ZoneSound (f z)) : CensusSound (s.modifySide side f) := by
  unfold State.modifySide
  split
  · exact hs
  · exact censusSound_modifyZone hs _ (hf _)

theorem censusSound_cross {s : State} (hs : CensusSound s) (g : Fin 32) (c : Crossing) : CensusSound (s.cross g c) := by
  have henter : ∀ z, ZoneSound z → ZoneSound z.enter := fun _ => zoneSound_enter
  have hleave : ∀ z, ZoneSound z → ZoneSound z.leave := fun _ => zoneSound_leave
  cases c with
  | inbound =>
    exact censusSound_of_changes (Changes.modifyGate ..) rfl rfl rfl
      (censusSound_modifySide (censusSound_modifySide hs _ henter) _ hleave)
  | outbound =>
    exact censusSound_of_changes (Changes.modifyGate ..) rfl rfl rfl
      (censusSound_modifySide (censusSound_modifySide hs _ hleave) _ henter)

/-- An invariant that each act of a list keeps holds after all of them. -/
theorem foldl_keeps {α β : Type} {p : β → Prop} {f : β → α → β} (hf : ∀ s a, p s → p (f s a)) (l : List α) {s : β}
    (hs : p s) : p (l.foldl f s) := by
  induction l generalizing s with
  | nil => exact hs
  | cons a l ih => exact ih (hf s a hs)

theorem censusSound_gateTakes {s : State} (hs : CensusSound s) (g : Fin 32) (f : Gate → Gate) :
    CensusSound (s.gateTakes g f) :=
  foldl_keeps (p := CensusSound) (fun _ c h => censusSound_cross h g c) _
    (censusSound_of_changes (Changes.modifyGate ..) rfl rfl rfl hs)

theorem censusSound_setClosed {s : State} (hs : CensusSound s) (z : Fin 32) (b : Bool) :
    CensusSound (s.setClosed z b) := by
  unfold State.setClosed
  split
  · exact hs
  · exact censusSound_of_changes (Changes.bump _) rfl rfl rfl (censusSound_modifyZone hs z fun h => h)

theorem censusSound_withFrozen {s : State} (hs : CensusSound s) (b : Bool) :
    CensusSound (s.withCensus { s.census with frozen := b }) := hs

theorem censusSound_reportFiring {s : State} (hs : CensusSound s) (w : Fin 8) (a : WatchAction) (v : Nat) (b : Bool) :
    CensusSound (s.reportFiring w a v b) :=
  censusSound_of_changes (Changes.reportFiring ..) rfl rfl rfl hs

theorem censusSound_returned {s : State} (hs : CensusSound s) (w : Fin 8) (st : WatchState) :
    CensusSound ((s.watchTo w st).returnPredecessor w) :=
  censusSound_of_changes (Changes.trans (Changes.modifyWatch ..) (Changes.returnPredecessor ..)) rfl rfl rfl hs

theorem censusSound_fire {s : State} (hs : CensusSound s) (w : Fin 8) (a : WatchAction) (v : Nat) :
    CensusSound (s.fire w a v) := by
  unfold State.fire
  cases a with
  | report => exact censusSound_returned (censusSound_reportFiring hs ..) ..
  | pulse l =>
    exact censusSound_returned (censusSound_of_changes (Changes.withAlerts ..) rfl rfl rfl
      (censusSound_reportFiring hs ..)) ..
  | freeze => exact censusSound_returned (censusSound_withFrozen (censusSound_reportFiring hs ..) true) ..
  | apply z => exact censusSound_returned (censusSound_setClosed (censusSound_reportFiring hs ..) ..) ..
  | stage =>
    refine censusSound_of_changes (Changes.returnPredecessor ..) rfl rfl rfl ?_
    split
    · exact censusSound_of_changes (Changes.modifyWatch ..) rfl rfl rfl hs
    · exact censusSound_of_changes ((Changes.modifyWatch ..).trans (Changes.modifyWatch ..)) rfl rfl rfl hs

theorem censusSound_watchTurn {s : State} (hs : CensusSound s) (w : Fin 8) : CensusSound (s.watchTurn w) := by
  unfold State.watchTurn
  dsimp only
  split
  · split
    · split
      · exact censusSound_fire hs ..
      · exact censusSound_of_changes (Changes.modifyWatch ..) rfl rfl rfl hs
    · exact hs
  · exact hs

theorem censusSound_record {s : State} (hs : CensusSound s) : CensusSound (s.withCensus s.census.record) := by
  obtain ⟨hzones, hperiod, hlength, hrecords⟩ := hs
  unfold Census.record
  split
  · exact ⟨hzones, hperiod, hlength, hrecords⟩
  · refine ⟨hzones, hperiod, pushRecord_length hlength _, fun r hr => ?_⟩
    rcases mem_pushRecord hr with h | rfl
    · exact hrecords r h
    · exact recordSound_historyRecord _

theorem censusSound_reportClasses {s : State} (hs : CensusSound s) (v : Vector Zone 32) :
    CensusSound (s.reportClasses v) :=
  censusSound_of_changes (Changes.reportClasses ..) rfl rfl rfl hs

/-- Steps 1 to 4 of a census tick (R95): the classing of every zone, its notices and its bump. -/
def State.classified (s : State) : State := (s.withCensus s.census.classed).reportClasses s.census.zones

theorem censusTick_eq (s : State) :
    s.censusTick = (s.classified.withCensus s.classified.census.record).evaluateWatches := by
  unfold State.censusTick State.classified
  rfl

theorem zonesSound_mapFin {v : Vector Zone 32} {f : Zone → Zone} (h : ∀ z : Fin 32, ZoneSound v[z])
    (hf : ∀ z, ZoneSound z → ZoneSound (f z)) (z : Fin 32) : ZoneSound (mapFin (fun _ z => f z) v)[z] := by
  rw [mapFin_get]
  exact hf _ (h z)

theorem censusSound_tick_zones {s : State} (hs : CensusSound s) (n : Nat) {v : Vector Zone 32}
    (h : ∀ z : Fin 32, ZoneSound v[z]) : CensusSound (s.withCensus { s.census with tick := n, zones := v }) :=
  censusSound_withZones hs h rfl rfl

theorem censusSound_withCensus_classed {s : State} (hs : CensusSound s) :
    CensusSound (s.withCensus s.census.classed) := by
  unfold Census.classed
  exact censusSound_tick_zones hs _ (zonesSound_mapFin hs.1 fun _ => zoneSound_tick)

theorem censusSound_withCensus_zeroed {s : State} (hs : CensusSound s) :
    CensusSound (s.withCensus s.census.zeroed) := by
  unfold Census.zeroed
  exact censusSound_tick_zones hs _ (zonesSound_mapFin hs.1 fun _ => zoneSound_zeroed)

theorem censusSound_classified {s : State} (hs : CensusSound s) : CensusSound s.classified := by
  unfold State.classified
  exact censusSound_reportClasses (censusSound_withCensus_classed hs) _

theorem censusSound_evaluateWatches {s : State} (hs : CensusSound s) : CensusSound s.evaluateWatches := by
  unfold State.evaluateWatches
  exact foldl_keeps (p := CensusSound) (fun _ w h => censusSound_watchTurn h w) _ hs

theorem censusSound_censusTick {s : State} (hs : CensusSound s) : CensusSound s.censusTick := by
  rw [censusTick_eq]
  exact censusSound_evaluateWatches (censusSound_record (censusSound_classified hs))

theorem censusSound_censusZero {s : State} (hs : CensusSound s) : CensusSound (censusZeroEffect s).1 := by
  unfold censusZeroEffect
  dsimp only
  exact censusSound_reportClasses (censusSound_withCensus_zeroed hs) _

theorem censusSound_of_untouched {c : Instr} {s : State} (h : c ≠ .hardReset) (hz : (touches c).contains .zones = false)
    (hp : (touches c).contains .period = false) (hr : (touches c).contains .ring = false) (hs : CensusSound s) :
    CensusSound (moveOf c s) :=
  censusSound_of_changes (moveOf_changes c s h) hz hp hr hs

theorem censusSound_closure {s : State} (hs : CensusSound s) (i : Nat) (b : Bool) :
    CensusSound (closureEffect i b s).1 := by
  unfold closureEffect
  split
  · exact hs
  · exact censusSound_setClosed hs ..

theorem censusSound_move (c : Instr) {s : State} (hs : CensusSound s) : CensusSound (moveOf c s) := by
  cases c with
  | hardReset =>
    refine ⟨fun z => ?_, ⟨show 1 ≤ 5 by decide, show 5 ≤ 60 by decide⟩, Nat.zero_le _, nofun⟩
    have : (State.hardReset s).census.zones[z] = Zone.reset := Vector.getElem_replicate ..
    exact this ▸ zoneSound_reset
  | beamEvent | pairEvent =>
    simp only [moveOf]
    split
    · exact censusSound_gateTakes hs ..
    · exact hs
  | stuckTimerExpiry g beam =>
    simp only [moveOf]
    split
    · have hest : ∀ z, ZoneSound z → ZoneSound z.estimate := fun _ h => h
      refine censusSound_of_changes (Changes.post ..) rfl rfl rfl (censusSound_modifySide (censusSound_modifySide ?_ _ hest) _ hest)
      exact censusSound_of_changes (Changes.modifyGate ..) rfl rfl rfl hs
    · exact hs
  | zone _ i a =>
    simp only [moveOf, zoneEffect]
    split
    · exact hs
    · next z _ =>
      rcases checked_cases [inRange (zoneInRange i (s.zone z) a)] s _ with ⟨_, _, e⟩ | ⟨hr, e⟩ <;> rw [e]
      · exact hs
      · have hr : zoneInRange i (s.zone z) a = true := (firstFailing_none _).mp hr _ List.mem_cons_self
        exact censusSound_modifyZone hs z fun h => zoneSound_setEnable (zoneSound_storeLimits h hr) _
  | censusPeriod _ n => exact ⟨hs.1, clampTo_bounds (by decide) n, hs.2.2⟩
  | censusTick => exact censusSound_censusTick hs
  | zoneClose _ i => exact censusSound_closure hs i true
  | zoneOpen _ i => exact censusSound_closure hs i false
  | occupancy _ i n =>
    simp only [moveOf, occupancyEffect]
    split
    · exact hs
    · exact censusSound_modifyZone hs _ fun h => h
  | censusZero => exact censusSound_censusZero hs
  | historyResume => exact hs
  | _ => exact censusSound_of_untouched nofun rfl rfl rfl hs

/-! ## The moves of the ring (R104, R105) -/

/-- The tick and the ring are the same: what the evaluation of the watches leaves of the history. -/
def SameHistory (s t : State) : Prop := t.census.tick = s.census.tick ∧ t.census.ring = s.census.ring

theorem SameHistory.trans {s t u : State} (h : SameHistory s t) (k : SameHistory t u) : SameHistory s u :=
  ⟨k.1.trans h.1, k.2.trans h.2⟩

theorem SameHistory.of_changes {l : List Part} {s t : State} (h : Changes l s t) (hr : l.contains .ring = false) :
    SameHistory s t := by
  have hring := h.same .ring hr
  simp only [Part.same, Prod.mk.injEq] at hring
  exact ⟨hring.1, hring.2.1⟩

theorem SameHistory.fire (s : State) (w : Fin 8) (a : WatchAction) (v : Nat) : SameHistory s (s.fire w a v) := by
  have hreturned : ∀ (t : State) (st : WatchState), SameHistory t ((t.watchTo w st).returnPredecessor w) := fun t st =>
    .of_changes ((Changes.modifyWatch ..).trans (Changes.returnPredecessor ..)) rfl
  have hreport : ∀ b, SameHistory s (s.reportFiring w a v b) := fun b => .of_changes (Changes.reportFiring ..) rfl
  unfold State.fire
  cases a with
  | report => exact (hreport _).trans (hreturned ..)
  | pulse l => exact ((hreport _).trans (.of_changes (Changes.withAlerts ..) rfl)).trans (hreturned ..)
  | freeze => exact ((hreport false).trans (t := (s.reportFiring w .freeze v false).withCensus
      { (s.reportFiring w .freeze v false).census with frozen := true }) ⟨rfl, rfl⟩).trans (hreturned ..)
  | apply z => exact ((hreport _).trans (.of_changes (Changes.setClosed ..) rfl)).trans (hreturned ..)
  | stage =>
    refine SameHistory.trans ?_ (.of_changes (Changes.returnPredecessor ..) rfl)
    split
    · exact .of_changes (Changes.modifyWatch ..) rfl
    · exact .of_changes ((Changes.modifyWatch ..).trans (Changes.modifyWatch ..)) rfl

theorem SameHistory.watchTurn (s : State) (w : Fin 8) : SameHistory s (s.watchTurn w) := by
  unfold State.watchTurn
  dsimp only
  split
  · split
    · split
      · exact .fire ..
      · exact .of_changes (Changes.modifyWatch ..) rfl
    · exact ⟨rfl, rfl⟩
  · exact ⟨rfl, rfl⟩

theorem SameHistory.evaluateWatches (s : State) : SameHistory s s.evaluateWatches :=
  foldl_keeps (p := SameHistory s) (fun _ w h => h.trans (.watchTurn _ w)) _ ⟨rfl, rfl⟩

theorem classified_ring (s : State) : s.classified.census.tick = (s.census.tick + 1) % 65536
    ∧ s.classified.census.ring = s.census.ring ∧ s.classified.census.frozen = s.census.frozen := by
  have h := (Changes.reportClasses (s.withCensus s.census.classed) s.census.zones).same .ring rfl
  simp only [Part.same, State.withCensus_census, Prod.mk.injEq] at h
  unfold State.classified
  refine h.imp (fun h => h.trans ?_) (And.imp (fun h => h.trans ?_) fun h => h.trans ?_) <;> unfold Census.classed <;> rfl

/-- A census tick takes the next number and pushes its record into a ring not frozen (R95, R104). -/
theorem censusTick_ring (s : State) :
    s.censusTick.census.tick = (s.census.tick + 1) % 65536
    ∧ (s.census.frozen = true → s.censusTick.census.ring = s.census.ring)
    ∧ (s.census.frozen = false → ∃ r, r.tick = s.censusTick.census.tick
        ∧ s.censusTick.census.ring = pushRecord s.census.ring r) := by
  obtain ⟨htick, hring, hfrozen⟩ := classified_ring s
  rw [censusTick_eq]
  generalize s.classified = t at htick hring hfrozen
  obtain ⟨h1, h2⟩ := SameHistory.evaluateWatches (t.withCensus t.census.record)
  rw [h1, h2, State.withCensus_census]
  have hrec : t.census.record.tick = t.census.tick := by unfold Census.record; split <;> rfl
  refine ⟨hrec.trans htick, fun hf => ?_, fun hf => ⟨historyRecord t.census, hrec.symm, ?_⟩⟩
  · rw [Census.record, if_pos (hfrozen.trans hf), hring]
  · rw [Census.record, if_neg (by rw [hfrozen, hf]; decide), hring]

/-- The ring is where it was, or holds the record of the tick just taken behind all others. -/
def RingKeptOrPushed (s t : State) : Prop :=
  t.census.ring = s.census.ring
  ∨ ∃ r : HistoryRecord, s.census.frozen = false ∧ r.tick = t.census.tick
    ∧ t.census.tick = (s.census.tick + 1) % 65536
    ∧ t.census.ring = (if s.census.ring.length < 64 then s.census.ring else s.census.ring.drop 1) ++ [r]

theorem ringKeptOrPushed_censusTick (s : State) : RingKeptOrPushed s s.censusTick := by
  obtain ⟨htick, hfrozen, hpush⟩ := censusTick_ring s
  generalize s.censusTick = t at htick hfrozen hpush
  cases hf : s.census.frozen with
  | true => exact .inl (hfrozen hf)
  | false =>
    obtain ⟨r, hr, hring⟩ := hpush hf
    refine .inr ⟨r, hf, hr, htick, hring.trans ?_⟩
    unfold pushRecord
    split <;> rfl

theorem ringKeptOrPushed_of_untouched {c : Instr} {s : State} (h : c ≠ .hardReset)
    (hr : (touches c).contains .ring = false) : RingKeptOrPushed s (moveOf c s) :=
  .inl (SameHistory.of_changes (moveOf_changes c s h) hr).2

theorem ringKeptOrPushed_move {c : Instr} (hc : c ≠ .hardReset) (s : State) : RingKeptOrPushed s (moveOf c s) := by
  cases c with
  | hardReset => exact absurd rfl hc
  | censusTick => exact ringKeptOrPushed_censusTick s
  | historyResume => exact .inl rfl
  | _ => exact ringKeptOrPushed_of_untouched nofun rfl

/-- The request that a line reads as has the line's tag. -/
theorem requestOf_tag {v : Verb} {tag : Nat} {a : Args} {c : Instr} (h : requestOf v tag a = some c) :
    c.tag? = some tag := by
  have hform : ∀ (x y : Option Nat) (p q r : Instr), p.tag? = some tag → q.tag? = some tag → r.tag? = some tag →
      (byForm x y p q r).tag? = some tag := by
    intro x y p q r hp hq hr
    unfold byForm
    split
    · exact hp
    · split
      · exact hq
      · exact hr
  cases v <;> simp only [requestOf, Option.map_eq_some_iff, Option.some.injEq] at h <;>
    first
    | (subst h; rfl)
    | (obtain ⟨_, _, rfl⟩ := h; first | rfl | exact hform _ _ _ _ _ rfl rfl rfl | (split <;> rfl))
    | (split at h <;> cases h; rfl)

theorem lineCommand_ne_hardReset (line : Text) : lineCommand line ≠ .hardReset := by
  unfold lineCommand
  split
  · next c hc =>
    intro h
    subst h
    unfold readLine at hc
    repeat' split at hc
    all_goals try cases hc
    unfold readRequest at hc
    split at hc
    · cases hc
    · split at hc
      · cases hc
      · next h =>
        split at hc
        · cases hc
        · cases hc
          cases requestOf_tag h
  all_goals nofun

theorem exec_ringKeptOrPushed {c : Instr} {s t : State} (hc : c ≠ .hardReset) (ht : exec c s = .next t) :
    RingKeptOrPushed s t := by
  cases htag : c.tag? with
  | none =>
    rw [exec_event s htag] at ht
    injection ht with ht
    exact ht ▸ ringKeptOrPushed_move hc s
  | some tag =>
    obtain ⟨a, e⟩ := exec_request s htag
    rw [e] at ht
    injection ht with ht
    have h := ringKeptOrPushed_move hc (s.taken c)
    rw [← ht]
    rw [RingKeptOrPushed, State.taken_census] at h
    rw [RingKeptOrPushed, State.reply_census]
    exact h

/-- Settles O12: every change of a zone record keeps it sound and a record pushed is one of 32 zones; the ring is touched
by the tick, HISTORY-RESUME and a hard reset alone. -/
theorem everyStepKeepsTheCensusSound : Obligations.EveryStepKeepsTheCensusSound := by
  refine ⟨keptByEveryStep_of_move (fun _ _ h => h)
    (fun s c => censusSound_of_changes (Changes.taken s c) rfl rfl rfl)
    (fun s tag a => censusSound_of_changes (Changes.reply s tag a) rfl rfl rfl) fun c _ h => censusSound_move c h, ?_⟩
  intro s t ht
  unfold step at ht
  split at ht
  · next c rest hp =>
    by_cases hc : c = .hardReset
    · subst hc
      cases ht
      exact .inr (.inl ⟨rfl, rest, hp⟩)
    · rcases exec_ringKeptOrPushed hc ht with h | h
      · exact .inl h
      · exact .inr (.inr h)
  · split at ht
    · rcases exec_ringKeptOrPushed (lineCommand_ne_hardReset _) ht with h | h
      · exact .inl h
      · exact .inr (.inr h)
    · cases ht
      exact .inl rfl

end Sys2Proof.Machine

/-! # Proofs: watches and alert pulses -/

namespace Sys2Proof.Machine

open Sys2Proof.Safety

/-! ## Watch records (R109 to R121) -/

theorem watchSound_reset : WatchSound Watch.reset :=
  ⟨fun _ => rfl, nofun, Nat.le_refl 0, Nat.zero_le _, Nat.zero_le _, by decide, nofun, nofun, nofun, nofun⟩

/-- A sound watch that is not DISABLED is configured. -/
theorem watchSound_configured {x : Watch} (h : WatchSound x) (hs : x.state ≠ .disabled) : x.configured = true := by
  obtain ⟨hoff, _⟩ := h
  cases hc : x.configured with
  | true => rfl
  | false => exact absurd (hoff hc) hs

theorem watchSound_countDown {x : Watch} (h : WatchSound x) : WatchSound { x with remaining := x.remaining - 1 } := by
  obtain ⟨hoff, hon, hrem, hrest⟩ := h
  exact ⟨hoff, hon, (Nat.sub_le ..).trans hrem, hrest⟩

theorem watchSound_disabled {x : Watch} (h : WatchSound x) : WatchSound { x with state := .disabled } := by
  obtain ⟨_, hon, hrem, hcount, hthreshold, hhold, _⟩ := h
  exact ⟨fun _ => rfl, hon, hrem, hcount, hthreshold, hhold, nofun, nofun, nofun, nofun⟩

/-- A configured watch becomes ARMED, or WAITING if it is chained, with any remaining count its own allows. -/
theorem watchSound_armed {x : Watch} (h : WatchSound x) (hc : x.configured = true) {n : Nat} (hn : n ≤ x.countBefore)
    (b : Bool) {st : WatchState} (hst : st = .armed ∨ st = .waiting ∧ x.chained = true) :
    WatchSound { x with remaining := n, occurred := b, state := st } := by
  obtain ⟨_, hon, _, hcount, hthreshold, hhold, _⟩ := h
  have hoff : x.configured = false → st = .disabled := fun h => by rw [hc] at h; cases h
  rcases hst with rfl | ⟨rfl, hchained⟩
  · exact ⟨hoff, hon, hn, hcount, hthreshold, hhold, nofun, nofun, nofun, nofun⟩
  · exact ⟨hoff, hon, hn, hcount, hthreshold, hhold, fun _ => hchained, nofun, nofun, nofun⟩

theorem Watch.armedState_cases (x : Watch) : x.armedState = .armed ∨ x.armedState = .waiting ∧ x.chained = true := by
  unfold Watch.armedState
  split
  · next h => exact .inr ⟨rfl, h⟩
  · exact .inl rfl

theorem watchSound_rearm {x : Watch} (h : WatchSound x) (hs : x.state = .holdOff) : WatchSound x.rearm := by
  have hremaining := h
  obtain ⟨_, _, hremaining, _⟩ := hremaining
  exact watchSound_armed h (watchSound_configured h (by rw [hs]; nofun)) hremaining false x.armedState_cases

theorem watchSound_arm {x : Watch} (h : WatchSound x) (hc : x.configured = true) : WatchSound x.arm :=
  watchSound_armed h hc (Nat.le_refl _) false x.armedState_cases

theorem watchSound_returned {x : Watch} (h : WatchSound x) : WatchSound x.returned := by
  unfold Watch.returned
  split
  · next hs => exact watchSound_armed h (watchSound_configured h (by rw [hs]; nofun)) (Nat.le_refl _) x.occurred (.inl rfl)
  · exact h

theorem watchSound_staged {x : Watch} (h : WatchSound x) : WatchSound x.staged := by
  unfold Watch.staged
  split
  · next hs =>
    have hremaining := h
    obtain ⟨_, _, hremaining, _⟩ := hremaining
    exact watchSound_armed h (watchSound_configured h (by rw [hs]; nofun)) hremaining x.occurred (.inl rfl)
  · exact h

/-- The state that a firing leads to, by the watch's action (R115, R117, R118). -/
def WatchAction.firedState : WatchAction → WatchState
  | .report | .pulse _ => .holdOff
  | .freeze | .apply _ => .fired
  | .stage => .staged

theorem watchSound_fired {x : Watch} (h : WatchSound x) (hc : x.configured = true) {a : WatchAction}
    (ha : x.action = some a) : WatchSound { x with state := a.firedState } := by
  obtain ⟨_, hon, hrem, hcount, hthreshold, hhold, _⟩ := h
  have hoff : ∀ st : WatchState, x.configured = false → st = .disabled := fun _ h => by rw [hc] at h; cases h
  cases a with
  | report => exact ⟨hoff _, hon, hrem, hcount, hthreshold, hhold, nofun, fun _ => .inl ha, nofun, nofun⟩
  | pulse l => exact ⟨hoff _, hon, hrem, hcount, hthreshold, hhold, nofun, fun _ => .inr ⟨l, ha⟩, nofun, nofun⟩
  | freeze => exact ⟨hoff _, hon, hrem, hcount, hthreshold, hhold, nofun, nofun, fun _ => .inl ha, nofun⟩
  | apply z => exact ⟨hoff _, hon, hrem, hcount, hthreshold, hhold, nofun, nofun, fun _ => .inr ⟨z, ha⟩, nofun⟩
  | stage => exact ⟨hoff _, hon, hrem, hcount, hthreshold, hhold, nofun, nofun, nofun, fun _ => ha⟩

theorem watchSound_record {i : Nat} {a : WatchArgs} (h : watchInRange i a = true) (sub : Subject) (act : WatchAction) :
    WatchSound (watchRecord a sub act) := by
  simp only [watchInRange, Bool.and_eq_true, decide_eq_true_eq] at h
  obtain ⟨⟨⟨⟨⟨_, hthreshold⟩, hcount⟩, _⟩, _⟩, hhold⟩ := h
  have hcount' : a.count.getD 0 ≤ 255 := by
    cases hc : a.count with
    | none => exact Nat.zero_le _
    | some n => simpa [hc, optLe] using hcount
  have hhold' : 1 ≤ a.holdOff.getD 10 ∧ a.holdOff.getD 10 ≤ 255 := by
    cases hc : a.holdOff with
    | none => exact by decide
    | some n => simpa [hc, optWithin, within] using hhold
  exact ⟨nofun, fun _ => ⟨rfl, rfl⟩, Nat.le_refl _, hcount', hthreshold, hhold', nofun, nofun, nofun, nofun⟩

/-! ## The watch unit -/

theorem watchesSound_of_changes {l : List Part} {s t : State} (h : Changes l s t) (hw : l.contains .watches = false)
    (ha : l.contains .alerts = false) (hs : WatchesSound s) : WatchesSound t := by
  have hwatches : t.watches.watches = s.watches.watches := h.same .watches hw
  have halerts : t.watches.alerts = s.watches.alerts := h.same .alerts ha
  simpa only [WatchesSound, hwatches, halerts] using hs

theorem watchesSound_modifyWatch {s : State} (hs : WatchesSound s) (w : Fin 8) {f : Watch → Watch}
    (hf : WatchSound s.watches.watches[w] → WatchSound (f s.watches.watches[w]))
    (hchained : (f s.watches.watches[w]).chained = s.watches.watches[w].chained)
    (haction : (f s.watches.watches[w]).action = s.watches.watches[w].action) : WatchesSound (s.modifyWatch w f) := by
  obtain ⟨hwatches, hzero, howners⟩ := hs
  have hget : ∀ k : Fin 8, (s.modifyWatch w f).watches.watches[k]
      = if w = k then f s.watches.watches[k] else s.watches.watches[k] := fun k => modifyAt_get ..
  refine ⟨fun k => ?_, ?_, fun l k hk => ?_⟩
  · rw [hget]
    split
    · next h => exact h ▸ hf (hwatches w)
    · exact hwatches k
  · refine Eq.trans (congrArg Watch.chained (hget 0)) ?_
    split
    · next h => subst h; exact hchained.trans hzero
    · exact hzero
  · rw [hget]
    split
    · next h => subst h; exact haction.trans (howners l w hk)
    · exact howners l k hk

theorem watchesSound_watchTo {s : State} (hs : WatchesSound s) (w : Fin 8) {st : WatchState}
    (h : WatchSound s.watches.watches[w] → WatchSound { s.watches.watches[w] with state := st }) :
    WatchesSound (s.watchTo w st) := watchesSound_modifyWatch hs w h rfl rfl

theorem watchesSound_returnPredecessor {s : State} (hs : WatchesSound s) (w : Fin 8) :
    WatchesSound (s.returnPredecessor w) := by
  unfold State.returnPredecessor
  split
  · split
    · exact hs
    · refine watchesSound_modifyWatch hs _ watchSound_returned ?_ ?_ <;> unfold Watch.returned <;> split <;> rfl
  · exact hs

theorem watchesSound_reportFiring {s : State} (hs : WatchesSound s) (w : Fin 8) (a : WatchAction) (v : Nat) (b : Bool) :
    WatchesSound (s.reportFiring w a v b) :=
  watchesSound_of_changes (Changes.post ..) rfl rfl (watchesSound_modifyWatch hs w id rfl rfl)

/-- The flag and the notice of a firing leave the configuration (R115). -/
theorem reportFiring_config (s : State) (w : Fin 8) (a : WatchAction) (v : Nat) (b : Bool) :
    (s.reportFiring w a v b).watches.watches[w].configured = s.watches.watches[w].configured
    ∧ (s.reportFiring w a v b).watches.watches[w].action = s.watches.watches[w].action := by
  have h : (s.reportFiring w a v b).watches.watches[w] = { s.watches.watches[w] with occurred := true } := by
    have := (Changes.post (s.modifyWatch w fun x => { x with occurred := true }) (.watch w a v s.census.tick b)).same
      .watches rfl
    unfold State.reportFiring
    rw [this]
    exact modifyAt_get_self ..
  rw [h]
  exact ⟨rfl, rfl⟩

theorem watchesSound_pulseLine {s : State} (hs : WatchesSound s) {l : Fin 4} {w : Fin 8}
    (ha : s.watches.watches[w].action = some (.pulse l)) : WatchesSound (s.pulseLine l w) := by
  obtain ⟨hwatches, hzero, howners⟩ := hs
  refine ⟨hwatches, hzero, fun m k hk => ?_⟩
  have hget : (s.watches.alerts.set l (some w))[m] = if l.val = m.val then some w else s.watches.alerts[m] :=
    Vector.getElem_set ..
  rw [State.pulseLine, State.withWatches_watches, hget] at hk
  split at hk
  · next h =>
    cases hk
    exact Fin.ext h ▸ ha
  · exact howners m k hk

theorem watchesSound_endPulses {s : State} (hs : WatchesSound s) (w : Fin 8) : WatchesSound (s.endPulses w) := by
  obtain ⟨hwatches, hzero, howners⟩ := hs
  refine ⟨hwatches, hzero, fun l k hk => ?_⟩
  rw [State.endPulses, State.withWatches_watches, mapFin_get] at hk
  split at hk
  · cases hk
  · exact howners l k hk

/-- A watch that is configured with an action and fires stays sound (R115, R117, R118). -/
theorem watchesSound_fire {s : State} (hs : WatchesSound s) {w : Fin 8} {a : WatchAction} (v : Nat)
    (hc : s.watches.watches[w].configured = true) (ha : s.watches.watches[w].action = some a) :
    WatchesSound (s.fire w a v) := by
  have hfired : ∀ {t : State}, WatchesSound t → t.watches.watches[w].configured = true →
      t.watches.watches[w].action = some a → WatchesSound ((t.watchTo w a.firedState).returnPredecessor w) :=
    fun h hc ha => watchesSound_returnPredecessor (watchesSound_watchTo h w fun h => watchSound_fired h hc ha) w
  have hr : ∀ b, WatchesSound (s.reportFiring w a v b) := watchesSound_reportFiring hs w a v
  have hrc : ∀ b, (s.reportFiring w a v b).watches.watches[w].configured = true := fun b =>
    (reportFiring_config s w a v b).1.trans hc
  have hra : ∀ b, (s.reportFiring w a v b).watches.watches[w].action = some a := fun b =>
    (reportFiring_config s w a v b).2.trans ha
  cases a with
  | report => exact hfired (hr _) (hrc _) (hra _)
  | pulse l => exact hfired (watchesSound_pulseLine (hr _) (hra false)) (hrc false) (hra false)
  | freeze => exact hfired (t := (s.reportFiring w .freeze v false).withCensus _) (hr false) (hrc false) (hra false)
  | apply z =>
    have hclosed := Changes.setClosed (s.reportFiring w (.apply z) v (!(s.zone z).closed)) z true
    have hsame : ((s.reportFiring w (.apply z) v (!(s.zone z).closed)).setClosed z true).watches.watches
        = (s.reportFiring w (.apply z) v (!(s.zone z).closed)).watches.watches := hclosed.same .watches rfl
    exact hfired (watchesSound_of_changes hclosed rfl rfl (hr _)) (by rw [hsame]; exact hrc _) (by rw [hsame]; exact hra _)
  | stage =>
    have hto : WatchesSound (s.watchTo w .staged) := watchesSound_watchTo hs w fun h => watchSound_fired h hc ha
    refine watchesSound_returnPredecessor ?_ w
    split
    · exact hto
    · refine watchesSound_modifyWatch hto _ watchSound_staged ?_ ?_ <;> unfold Watch.staged <;> split <;> rfl

theorem watchesSound_watchTurn {s : State} (hs : WatchesSound s) (w : Fin 8) : WatchesSound (s.watchTurn w) := by
  unfold State.watchTurn
  dsimp only
  split
  · next hstate _ haction =>
    split
    · split
      · exact watchesSound_fire hs _ (watchSound_configured (hs.1 w) (by rw [hstate]; nofun)) haction
      · exact watchesSound_modifyWatch hs w watchSound_countDown rfl rfl
    · exact hs
  · exact hs

theorem watchesSound_censusTick {s : State} (hs : WatchesSound s) : WatchesSound s.censusTick := by
  have h : WatchesSound (s.withCensus s.census.classed) :=
    watchesSound_of_changes (Changes.withTickZones ..) rfl rfl hs
  have hclassified : WatchesSound s.classified := by
    unfold State.classified
    exact watchesSound_of_changes (Changes.reportClasses ..) rfl rfl h
  rw [censusTick_eq]
  unfold State.evaluateWatches
  exact foldl_keeps (p := WatchesSound) (fun _ w h => watchesSound_watchTurn h w) _
    (watchesSound_of_changes (Changes.record _) rfl rfl hclassified)

/-- A configuration stored by WATCH agrees with R112: watch 0 is never chained, and the old action's pulse is ended. -/
theorem watchesSound_configure {s : State} (hs : WatchesSound s) {w : Fin 8} {x : Watch} (hx : WatchSound x)
    (hzero : w = 0 → x.chained = false) : WatchesSound ((s.modifyWatch w fun _ => x).endPulses w) := by
  obtain ⟨hwatches, hchained, howners⟩ := hs
  have hget : ∀ k : Fin 8, ((s.modifyWatch w fun _ => x).endPulses w).watches.watches[k]
      = if w = k then x else s.watches.watches[k] := fun k => modifyAt_get ..
  refine ⟨fun k => ?_, ?_, fun l k hk => ?_⟩
  · rw [hget]
    split
    · exact hx
    · exact hwatches k
  · refine Eq.trans (congrArg Watch.chained (hget 0)) ?_
    split
    · next h => exact hzero h
    · exact hchained
  · rw [State.endPulses, State.withWatches_watches, mapFin_get] at hk
    split at hk
    · cases hk
    · next hw =>
      rw [hget, if_neg fun h : w = k => hw (by rw [h]; exact hk)]
      exact howners l k hk

theorem watchesSound_watch {s : State} (hs : WatchesSound s) (i : Nat) (a : WatchArgs) :
    WatchesSound (watchEffect i a s).1 := by
  rcases checked_cases [inRange (watchInRange i a), agrees (watchSubject? a).isSome, agrees (watchAction? a).isSome,
     agrees (watchChainAgrees i a)] s _ with ⟨_, _, e⟩ | ⟨hpass, e⟩ <;> rw [watchEffect, e]
  · exact hs
  · have hpass := (firstFailing_none _).mp hpass
    have hrange : watchInRange i a = true := hpass (inRange (watchInRange i a)) (by simp)
    have hchain : watchChainAgrees i a = true := hpass (agrees (watchChainAgrees i a)) (by simp)
    split
    · next w sub act hw _ _ =>
      refine watchesSound_configure hs (watchSound_record hrange sub act) fun hzero => ?_
      have hi : i = 0 := by
        unfold toFin? at hw
        split at hw
        · cases hw
          exact congrArg Fin.val hzero
        · cases hw
      simp [watchChainAgrees, hi] at hchain
      exact hchain
    · exact hs

/-! ## Every step -/

theorem watchesSound_of_untouched {c : Instr} {s : State} (h : c ≠ .hardReset)
    (hw : (touches c).contains .watches = false) (ha : (touches c).contains .alerts = false) (hs : WatchesSound s) :
    WatchesSound (moveOf c s) :=
  watchesSound_of_changes (moveOf_changes c s h) hw ha hs

theorem watchesSound_move (c : Instr) {s : State} (hs : WatchesSound s) : WatchesSound (moveOf c s) := by
  cases c with
  | hardReset =>
    have hget : ∀ w : Fin 8, (State.hardReset s).watches.watches[w] = Watch.reset := fun w => Vector.getElem_replicate ..
    refine ⟨fun w => hget w ▸ watchSound_reset, congrArg Watch.chained (hget 0), fun l w h => ?_⟩
    have : (moveOf .hardReset s).watches.alerts[l] = none := Vector.getElem_replicate ..
    rw [this] at h
    cases h
  | censusTick => exact watchesSound_censusTick hs
  | watch _ i a => exact watchesSound_watch hs i a
  | watchArm _ i =>
    simp only [moveOf, watchArmEffect]
    split
    · exact hs
    · split
      · next hc => exact watchesSound_modifyWatch hs _ (fun h => watchSound_arm h hc) rfl rfl
      · exact hs
  | watchOff _ i =>
    simp only [moveOf, watchOffEffect]
    split
    · exact hs
    · exact watchesSound_endPulses (watchesSound_watchTo hs _ watchSound_disabled) _
  | holdOffExpiry w =>
    simp only [moveOf]
    split
    · next h => exact watchesSound_modifyWatch hs w (fun hx => watchSound_rearm hx h) rfl rfl
    · exact hs
  | pulseTimerExpiry l =>
    obtain ⟨hwatches, hzero, howners⟩ := hs
    refine ⟨hwatches, hzero, fun m k hk => howners m k ?_⟩
    have hget : (s.watches.alerts.set l none)[m] = if l.val = m.val then none else s.watches.alerts[m] :=
      Vector.getElem_set ..
    rw [moveOf, State.withWatches_watches, hget] at hk
    split at hk
    · cases hk
    · exact hk
  | _ => exact watchesSound_of_untouched nofun rfl rfl hs

/-- Settles O13: a watch moves by its turn in the census tick, by its own requests and by its hold-off, and each of these
keeps its record sound; a pulse gets its owner where that watch fires. -/
theorem everyStepKeepsWatchesSound : Obligations.EveryStepKeepsWatchesSound :=
  keptByEveryStep_of_move (fun _ _ h => h)
    (fun s c => watchesSound_of_changes (Changes.taken s c) rfl rfl)
    (fun s tag a => watchesSound_of_changes (Changes.reply s tag a) rfl rfl) fun c _ => watchesSound_move c

end Sys2Proof.Machine

/-! # Proofs: cadence timers and the day clock -/

namespace Sys2Proof.Machine

open Sys2Proof.Safety

/-! ## Timer records (R157 to R162) -/

theorem timerSound_reset : TimerSound CadenceTimer.reset :=
  ⟨by decide, by decide, Nat.zero_lt_one, Nat.le_of_ble_eq_true rfl, nofun⟩

theorem timerSound_halt {t : CadenceTimer} (h : TimerSound t) (r : RunState) :
    TimerSound { t with setting := r, state := .halt, due := false } := by
  obtain ⟨hperiod, hpages, hpage, hcount, _⟩ := h
  exact ⟨hperiod, hpages, hpage, hcount, nofun⟩

theorem timerSound_noExpiry {t : CadenceTimer} (h : TimerSound t) : TimerSound t.noExpiry := by
  obtain ⟨hperiod, hpages, hpage, hcount, _⟩ := h
  exact ⟨hperiod, hpages, hpage, hcount, nofun⟩

theorem timerSound_start {t : CadenceTimer} (h : TimerSound t) (hs : t.state = .halt) : TimerSound t.start := by
  obtain ⟨hperiod, hpages, hpage, hcount, hdue⟩ := h
  refine ⟨hperiod, hpages, hpage, hcount, fun hd => ?_⟩
  have := hdue hd
  rw [hs] at this
  cases this

theorem timerSound_stepPage {t : CadenceTimer} (h : TimerSound t) : TimerSound t.stepPage := by
  obtain ⟨hperiod, hpages, hpage, hcount, _⟩ := h
  unfold CadenceTimer.stepPage
  split
  · exact ⟨hperiod, hpages, hpage, show 0 < t.period by omega, nofun⟩
  · exact ⟨hperiod, hpages, Nat.mod_lt _ (by omega), show 0 < t.period by omega, nofun⟩

theorem CadenceTimer.stepPage_role (t : CadenceTimer) : t.stepPage.role = t.role := by
  unfold CadenceTimer.stepPage
  split <;> rfl

theorem CadenceTimer.stepPage_halt {t : CadenceTimer} (h : t.state = .halt) : t.stepPage.state = .halt := by
  unfold CadenceTimer.stepPage
  split
  · rfl
  · exact h

theorem timerSound_resync {t : CadenceTimer} (h : TimerSound t) (n : Nat) : TimerSound (t.resync n) := by
  obtain ⟨hperiod, hpages, hpage, hcount, hdue⟩ := h
  unfold CadenceTimer.resync
  split
  · exact ⟨hperiod, hpages, Nat.mod_lt _ (by omega), show 0 < t.period by omega, nofun⟩
  · exact ⟨hperiod, hpages, hpage, hcount, hdue⟩

theorem CadenceTimer.resync_role (t : CadenceTimer) (n : Nat) : (t.resync n).role = t.role := by
  unfold CadenceTimer.resync
  split <;> rfl

theorem CadenceTimer.resync_state (t : CadenceTimer) (n : Nat) : (t.resync n).state = t.state := by
  unfold CadenceTimer.resync
  split <;> rfl

theorem timerSound_count1 {t : CadenceTimer} (h : TimerSound t) (hs : t.state = .run) : TimerSound t.count1 := by
  obtain ⟨hperiod, hpages, hpage, hcount, _⟩ := h
  unfold CadenceTimer.count1
  split
  · next hlt => exact ⟨hperiod, hpages, hpage, hlt, fun _ => hs⟩
  · exact ⟨hperiod, hpages, hpage, hcount, fun _ => hs⟩

theorem CadenceTimer.count1_role (t : CadenceTimer) : t.count1.role = t.role := by
  unfold CadenceTimer.count1
  split <;> rfl

theorem timerSound_configure {t : CadenceTimer} (h : TimerSound t) {a : CadenceArgs}
    (hr : optWithin 1 16 a.pages = true) : TimerSound (t.configure a) := by
  obtain ⟨hperiod, hpages, _⟩ := h
  have hperiod' : 5 ≤ (t.configure a).period ∧ (t.configure a).period ≤ 600 := by
    unfold CadenceTimer.configure
    cases ha : a.period with
    | none => exact hperiod
    | some p => exact clampTo_bounds (by decide) p
  have hpages' : 1 ≤ (t.configure a).pages ∧ (t.configure a).pages ≤ 16 := by
    unfold CadenceTimer.configure
    cases ha : a.pages with
    | none => exact hpages
    | some p => simpa [ha, optWithin, within] using hr
  exact ⟨hperiod', hpages', show 0 < (t.configure a).pages by omega, show 0 < (t.configure a).period by omega, nofun⟩

theorem timerSound_runFrom {t : CadenceTimer} (h : TimerSound t) (b r : Bool) : TimerSound (t.runFrom b r) := by
  obtain ⟨hperiod, hpages, hpage, hcount, hdue⟩ := h
  unfold CadenceTimer.runFrom
  cases r with
  | true => exact ⟨hperiod, hpages, show 0 < t.pages by omega, show 0 < t.period by omega, nofun⟩
  | false =>
    refine ⟨hperiod, hpages, hpage, hcount, fun hd => ?_⟩
    cases b with
    | true => rfl
    | false => exact hdue hd

theorem CadenceTimer.runFrom_role (t : CadenceTimer) (b r : Bool) : (t.runFrom b r).role = t.role := by
  unfold CadenceTimer.runFrom
  cases r <;> rfl

theorem CadenceTimer.runFrom_state (t : CadenceTimer) (b r : Bool) :
    (t.runFrom b r).state = if b then .run else t.state := by
  unfold CadenceTimer.runFrom
  cases r <;> rfl

/-! ## The cadence timers -/

theorem timersSound_of_changes {l : List Part} {s t : State} (h : Changes l s t) (ht : l.contains .timers = false)
    (hm : l.contains .mode = false) (hs : TimersSound s) : TimersSound t := by
  have htimers : t.clock.timers = s.clock.timers := h.same .timers ht
  have hmode : t.map.mode = s.map.mode := h.same .mode hm
  simpa only [TimersSound, htimers, hmode] using hs

/-- Timers that keep their roles stay sound where each record is sound, and is HALT in LOAD. -/
theorem timersSound_withTimers {s : State} (hs : TimersSound s) {v : Vector CadenceTimer 8}
    (hv : ∀ t : Fin 8, TimerSound v[t] ∧ v[t].role = s.clock.timers[t].role)
    (hload : s.map.mode = .load → ∀ t : Fin 8, v[t].state = .halt) :
    TimersSound (s.withClock { s.clock with timers := v }) := by
  obtain ⟨_, _, hmaster⟩ := hs
  exact ⟨fun t => (hv t).1, hload, fun t u ht hu => hmaster t u ((hv t).2.symm.trans ht) ((hv u).2.symm.trans hu)⟩

/-- A change of every timer by a function that keeps roles, HALT and sound records. -/
theorem timersSound_mapFin {s : State} (hs : TimersSound s) {f : CadenceTimer → CadenceTimer}
    (hf : ∀ t, TimerSound t → TimerSound (f t)) (hrole : ∀ t, (f t).role = t.role)
    (hhalt : ∀ t, t.state = .halt → (f t).state = .halt) :
    TimersSound (s.withClock { s.clock with timers := mapFin (fun _ t => f t) s.clock.timers }) := by
  refine timersSound_withTimers hs (fun t => ?_) fun hm t => ?_ <;> rw [mapFin_get]
  · exact ⟨hf _ (hs.1 t), hrole _⟩
  · exact hhalt _ (hs.2.1 hm t)

theorem timersSound_modifyTimer {s : State} (hs : TimersSound s) (k : Fin 8) {f : CadenceTimer → CadenceTimer}
    (hf : TimerSound s.clock.timers[k] → TimerSound (f s.clock.timers[k]))
    (hrole : (f s.clock.timers[k]).role = s.clock.timers[k].role)
    (hhalt : s.map.mode = .load → s.clock.timers[k].state = .halt → (f s.clock.timers[k]).state = .halt) :
    TimersSound (s.modifyTimer k f) := by
  refine timersSound_withTimers hs (fun t => ?_) fun hm t => ?_ <;> rw [modifyAt_get] <;> split
  · next h => subst h; exact ⟨hf (hs.1 k), hrole⟩
  · exact ⟨hs.1 t, rfl⟩
  · next h => subst h; exact hhalt hm (hs.2.1 hm k)
  · exact hs.2.1 hm t

theorem timersSound_resyncFollowers {s : State} (hs : TimersSound s) (n : Nat) : TimersSound (s.resyncFollowers n) := by
  refine foldl_keeps (p := TimersSound) (fun s k hs => ?_) _ hs
  split
  · exact timersSound_of_changes (Changes.post ..) rfl rfl (timersSound_modifyTimer hs k (timerSound_resync · n)
      (CadenceTimer.resync_role ..) fun _ h => (CadenceTimer.resync_state ..).trans h)
  · exact hs

theorem timersSound_takeExpiry {s : State} (hs : TimersSound s) (k : Fin 8) : TimersSound (s.takeExpiry k) := by
  have hstep : ∀ n, TimersSound ((s.modifyTimer k CadenceTimer.stepPage).post n) := fun n =>
    timersSound_of_changes (Changes.post ..) rfl rfl (timersSound_modifyTimer hs k timerSound_stepPage
      (CadenceTimer.stepPage_role _) fun _ => CadenceTimer.stepPage_halt)
  unfold State.takeExpiry State.expirePeriod
  dsimp only
  split
  · split
    · exact timersSound_resyncFollowers (hstep _) _
    · exact hstep _
  · exact hs

theorem timersSound_holdTimers {s : State} (hs : TimersSound s) : TimersSound s.holdTimers :=
  timersSound_mapFin hs (fun _ => timerSound_noExpiry) (fun _ => rfl) fun _ h => h

theorem timersSound_countTimers {s : State} (hs : TimersSound s) : TimersSound s.countTimers := by
  unfold State.countTimers
  split
  · refine timersSound_mapFin hs (fun t ht => ?_) (fun t => ?_) fun t ht => ?_ <;> split
    · next h => exact timerSound_count1 ht h
    · exact ht
    · exact CadenceTimer.count1_role t
    · rfl
    · next h => rw [ht] at h; cases h
    · exact ht
  · exact hs

theorem Changes.countIdle (s : State) : Changes [.sessions] s s.countIdle := by
  unfold State.countIdle
  exact Changes.mapSessions ..

theorem timersSound_second {s : State} (hs : TimersSound s) : TimersSound s.second := by
  have htaken : TimersSound ((List.finRange 8).foldl State.takeExpiry s) :=
    foldl_keeps (p := TimersSound) (fun _ k h => timersSound_takeExpiry h k) _ hs
  unfold State.second
  exact timersSound_of_changes (Changes.countIdle _) rfl rfl
    (timersSound_countTimers (timersSound_of_changes (Changes.advanceClock _) rfl rfl htaken))

theorem timersSound_entryEvent {s : State} (hs : TimersSound s) (c : EvacCause) : TimersSound (s.entryEvent c) := by
  have h3 : TimersSound (((s.evacTo .active).endEntries (fun e => e.cls == .normal) .evacCancelled).mapSessions
      fun _ ses => ses.toAlert) :=
    timersSound_of_changes (Changes.mapSessions ..) rfl rfl (timersSound_of_changes (Changes.endEntries ..) rfl rfl
      (timersSound_of_changes (Changes.evacTo ..) rfl rfl hs))
  have h5 := timersSound_of_changes (Changes.bumpCore _) rfl rfl (timersSound_holdTimers h3)
  have h7 := timersSound_of_changes (Changes.postEvac _ c) rfl rfl (timersSound_of_changes (Changes.dueAll _) rfl rfl h5)
  exact timersSound_of_changes (Changes.settle _) rfl rfl (timersSound_of_changes (Changes.setAck _ true) rfl rfl h7)

theorem timersSound_raiseEvac {s : State} (hs : TimersSound s) (c : EvacCause) : TimersSound (s.raiseEvac c) := by
  unfold State.raiseEvac
  split
  · split
    · exact timersSound_entryEvent hs c
    · exact timersSound_of_changes (Changes.postEvac ..) rfl rfl (timersSound_of_changes (Changes.evacTo ..) rfl rfl hs)
  all_goals exact hs

theorem timersSound_exitEvent {s : State} (hs : TimersSound s) : TimersSound s.exitEvent := by
  have h3 := timersSound_of_changes (Changes.clearDue _) rfl rfl (timersSound_of_changes
    (Changes.endEntries (s.evacTo .inactive) (fun e => e.cls == .evacuation) .evacEnded) rfl rfl
      (timersSound_of_changes (Changes.evacTo ..) rfl rfl hs))
  have h6 := timersSound_of_changes (Changes.bumpCore _) rfl rfl (timersSound_of_changes
    (Changes.mapSessions _ Session.leaveAlert) rfl rfl h3)
  exact timersSound_of_changes (Changes.settle _) rfl rfl (timersSound_of_changes (Changes.setAck _ false) rfl rfl
    (timersSound_of_changes (Changes.postEvac _ .ended) rfl rfl h6))

theorem timersSound_endPending {s : State} (hs : TimersSound s) : TimersSound s.endPending :=
  timersSound_of_changes (Changes.postEvac ..) rfl rfl (timersSound_of_changes (Changes.setAck ..) rfl rfl
    (timersSound_of_changes (Changes.clearDue _) rfl rfl (timersSound_of_changes (Changes.evacTo ..) rfl rfl hs)))

theorem timersSound_evacEnd {s : State} (hs : TimersSound s) : TimersSound (evacEndEffect s).1 := by
  unfold evacEndEffect
  rcases checked_cases [(s.evac.state != .inactive, .no .notActive), (!s.evac.debounced, .no .evacLine)] s _
    with ⟨_, _, e⟩ | ⟨_, e⟩ <;> rw [e]
  · exact hs
  · dsimp only
    split
    · exact timersSound_exitEvent hs
    · exact timersSound_endPending hs
    · exact hs

/-- Entering SERVICE from LOAD every timer, HALT until then, takes its run setting (R160). -/
theorem timersSound_enterService {s : State} (hs : TimersSound s) (hm : s.map.mode = .load) :
    TimersSound s.enterService := by
  obtain ⟨hrecords, hload, hmaster⟩ := hs
  have hget : ∀ t : Fin 8, s.enterService.clock.timers[t] = s.clock.timers[t].start := fun t => mapFin_get ..
  refine ⟨fun t => ?_, nofun, fun t u ht hu => ?_⟩
  · rw [hget]
    exact timerSound_start (hrecords t) (hload hm t)
  · rw [hget] at ht hu
    exact hmaster t u ht hu

theorem timersSound_start {s : State} (hs : TimersSound s) : TimersSound (startEffect s).1 := by
  unfold startEffect
  rcases checked_cases [inLoad s] s _ with ⟨_, _, e⟩ | ⟨hpass, e⟩ <;> rw [e]
  · exact hs
  · have hm : s.map.mode = .load := beq_iff_eq.mp ((firstFailing_none _).mp hpass _ List.mem_cons_self)
    split
    · exact hs
    · have h := timersSound_enterService hs hm
      dsimp only
      split
      · exact timersSound_entryEvent h .start
      · exact h

theorem Changes.stopEvac_parts (s : State) : Changes [.evacState, .due, .notices] s s.stopEvac :=
  .ite ((((Changes.evacTo ..).mono rfl).trans ((Changes.clearDue _).mono rfl)).trans ((Changes.postEvac ..).mono rfl))
    (.refl _ s)

theorem timersSound_leaveService {s : State} (hs : TimersSound s) : TimersSound s.leaveService := by
  obtain ⟨hrecords, _, hmaster⟩ := timersSound_of_changes (Changes.endEntries s (fun _ => true) .serviceStopped) rfl rfl hs
  unfold State.leaveService
  generalize s.endEntries (fun _ => true) .serviceStopped = u at hrecords hmaster
  refine timersSound_of_changes (Changes.stopEvac_parts _) rfl rfl ⟨fun t => ?_, fun _ t => ?_, fun t k ht hk => ?_⟩ <;>
    dsimp only at * <;> simp only [State.withClock_clock, mapFin_get] at *
  · exact timerSound_halt (hrecords t) _
  · rfl
  · exact hmaster t k ht hk

theorem timersSound_cadence {s : State} (hs : TimersSound s) (i : Nat) (a : CadenceArgs) :
    TimersSound (cadenceEffect i a s).1 := by
  unfold cadenceEffect
  split
  · exact hs
  · next k _ =>
    rcases checked_cases [inRange (optWithin 1 16 a.pages), agrees !(a.role == some .master && s.otherMaster k)] s _
      with ⟨_, _, e⟩ | ⟨hpass, e⟩ <;> rw [e]
    · exact hs
    · have hpass := (firstFailing_none _).mp hpass
      have hpages : optWithin 1 16 a.pages = true := hpass (inRange (optWithin 1 16 a.pages)) (by simp)
      have hagree : (!(a.role == some .master && s.otherMaster k)) = true :=
        hpass (agrees !(a.role == some .master && s.otherMaster k)) (by simp)
      obtain ⟨hrecords, hload, hmaster⟩ := hs
      have hget : ∀ t : Fin 8, (s.modifyTimer k fun x => x.configure a).clock.timers[t]
          = if k = t then s.clock.timers[t].configure a else s.clock.timers[t] := fun t => modifyAt_get ..
      have hnew : ∀ t, t ≠ k → (s.clock.timers[k].configure a).role = .master → s.clock.timers[t].role ≠ .master := by
        intro t htk hk ht
        have hrole : a.role = some .master ∨ s.clock.timers[k].role = .master := by
          unfold CadenceTimer.configure at hk
          cases ha : a.role with
          | none => exact .inr (by simpa [ha] using hk)
          | some r => exact .inl (by simpa [ha] using hk)
        rcases hrole with hrole | hrole
        · have : s.otherMaster k = true := List.any_eq_true.mpr ⟨t, List.mem_finRange t, by rw [ht]; simp [htk]⟩
          simp [hrole, this] at hagree
        · exact htk (hmaster t k ht hrole)
      refine ⟨fun t => ?_, fun hm t => ?_, fun t u ht hu => ?_⟩
      · rw [hget]
        split
        · exact timerSound_configure (hrecords t) hpages
        · exact hrecords t
      · rw [hget]
        split <;> exact hload hm t
      · rw [hget] at ht hu
        split at ht <;> split at hu
        · next h1 h2 => exact h1.symm.trans h2
        · next h1 h2 => subst h1; exact absurd hu (hnew u (Ne.symm h2) ht)
        · next h1 h2 => subst h2; exact absurd ht (hnew t (Ne.symm h1) hu)
        · exact hmaster t u ht hu

theorem timersSound_of_untouched {c : Instr} {s : State} (h : c ≠ .hardReset)
    (ht : (touches c).contains .timers = false) (hm : (touches c).contains .mode = false) (hs : TimersSound s) :
    TimersSound (moveOf c s) :=
  timersSound_of_changes (moveOf_changes c s h) ht hm hs

theorem timersSound_move (c : Instr) {s : State} (hs : TimersSound s) : TimersSound (moveOf c s) := by
  cases c with
  | hardReset =>
    have hget : ∀ t : Fin 8, (moveOf .hardReset s).clock.timers[t] = CadenceTimer.reset := fun t =>
      Vector.getElem_replicate ..
    refine ⟨fun t => hget t ▸ timerSound_reset, fun _ t => by rw [hget]; rfl, fun t u ht => ?_⟩
    rw [hget] at ht
    cases ht
  | start => exact timersSound_start hs
  | stop =>
    simp only [moveOf, stopEffect]
    rcases checked_cases [(s.inService, .no .wrongMode)] s _ with ⟨_, _, e⟩ | ⟨_, e⟩ <;> rw [e]
    · exact hs
    · exact timersSound_leaveService hs
  | evacInRise =>
    simp only [moveOf]
    split
    · exact timersSound_raiseEvac (timersSound_of_changes (Changes.evacLevel ..) rfl rfl hs) .line
    · exact hs
  | evac => exact timersSound_raiseEvac hs .host
  | evacEnd => exact timersSound_evacEnd hs
  | timebaseSecond => exact timersSound_second hs
  | cadencePeriodExpiry k => exact timersSound_takeExpiry hs k
  | cadence _ i a => exact timersSound_cadence hs i a
  | cadenceRun _ i r =>
    simp only [moveOf, cadenceRunEffect]
    rcases checked_cases [inRange (optLe 1 r)] s _ with ⟨_, _, e⟩ | ⟨_, e⟩ <;> rw [e]
    · exact hs
    · split
      · exact hs
      · refine timersSound_modifyTimer hs _ (timerSound_runFrom · _ _) (CadenceTimer.runFrom_role ..) fun hm h => ?_
        rw [CadenceTimer.runFrom_state, h, State.inService, hm]
        rfl
  | cadenceHalt _ i =>
    simp only [moveOf, cadenceHaltEffect]
    split
    · exact hs
    · exact timersSound_modifyTimer hs _ (timerSound_halt · _) rfl fun _ _ => rfl
  | _ => exact timersSound_of_untouched nofun rfl rfl hs

/-! ## The day clock (R153, R154) -/

theorem clockSound_of_changes {l : List Part} {s t : State} (h : Changes l s t) (hd : l.contains .dayClock = false)
    (hs : ClockSound s) : ClockSound t := by
  have hclock : t.clock.clock = s.clock.clock := h.same .dayClock hd
  simpa only [ClockSound, hclock] using hs

theorem clockSound_withClock (s : State) {c : DayTime} (hm : c.minute ≤ 1439) (hs : c.second ≤ 59) :
    ClockSound (s.withClock { s.clock with clock := some c }) := by
  intro d hd
  cases hd
  exact ⟨hm, hs⟩

theorem DayTime.next_bounds {c : DayTime} (hm : c.minute ≤ 1439) :
    c.next.minute ≤ 1439 ∧ c.next.second ≤ 59 := by
  unfold DayTime.next
  split
  · next h => exact ⟨hm, h⟩
  · split
    · next h => exact ⟨h, Nat.zero_le _⟩
    · exact ⟨Nat.zero_le _, Nat.zero_le _⟩

theorem clockSound_minuteBoundary (s : State) {c : DayTime} (hm : c.minute ≤ 1439) (hs : c.second ≤ 59) (b : Bool) :
    ClockSound (s.minuteBoundary c b) := by
  have h : ∀ t, ClockSound ((s.withClock { s.clock with clock := some c }).withMap t) := fun t =>
    clockSound_withClock s hm hs
  unfold State.minuteBoundary
  dsimp only
  split
  · exact h _
  · exact clockSound_of_changes (Changes.post ..) rfl (clockSound_of_changes (Changes.bump _) rfl (h _))

theorem clockSound_advanceClock {s : State} (hs : ClockSound s) : ClockSound s.advanceClock := by
  unfold State.advanceClock
  split
  · exact hs
  · next c hc =>
    obtain ⟨hm, hsec⟩ := hs c hc
    obtain ⟨hm, hsec⟩ := DayTime.next_bounds hm
    split
    · exact clockSound_minuteBoundary s hm hsec false
    · exact clockSound_withClock s hm hsec

theorem clockSound_of_untouched {c : Instr} {s : State} (h : c ≠ .hardReset)
    (hd : (touches c).contains .dayClock = false) (hs : ClockSound s) : ClockSound (moveOf c s) :=
  clockSound_of_changes (moveOf_changes c s h) hd hs

theorem clockSound_move (c : Instr) {s : State} (hs : ClockSound s) : ClockSound (moveOf c s) := by
  cases c with
  | hardReset => exact nofun
  | timebaseSecond =>
    have htaken : ClockSound ((List.finRange 8).foldl State.takeExpiry s) :=
      clockSound_of_changes (Changes.foldl Changes.takeExpiry _ s) rfl hs
    exact clockSound_of_changes (Changes.countIdle _) rfl (clockSound_of_changes (Changes.countTimers _) rfl
      (clockSound_advanceClock htaken))
  | clock _ d m x =>
    simp only [moveOf, clockEffect]
    rcases checked_cases [inRange (m ≤ 1439 && optLe 59 x)] s _ with ⟨_, _, e⟩ | ⟨hpass, e⟩ <;> rw [e]
    · exact hs
    · have hr : (decide (m ≤ 1439) && optLe 59 x) = true := (firstFailing_none _).mp hpass _ List.mem_cons_self
      simp only [Bool.and_eq_true, decide_eq_true_eq] at hr
      obtain ⟨hm, hx⟩ := hr
      split
      · exact hs
      · refine clockSound_minuteBoundary s hm ?_ true
        cases x with
        | none => exact Nat.zero_le _
        | some n => simpa [optLe] using hx
  | _ => exact clockSound_of_untouched nofun rfl hs

/-- Settles O15: timers move by their expiry, by the second, by their requests and with the engine mode; the day clock by
the second and by CLOCK. -/
theorem everyStepKeepsTimersSound : Obligations.EveryStepKeepsTimersSound :=
  keptByEveryStep_of_move (fun _ _ h => h)
    (fun s c h => ⟨timersSound_of_changes (Changes.taken s c) rfl rfl h.1, clockSound_of_changes (Changes.taken s c) rfl h.2⟩)
    (fun s tag a h => ⟨timersSound_of_changes (Changes.reply s tag a) rfl rfl h.1,
      clockSound_of_changes (Changes.reply s tag a) rfl h.2⟩)
    fun c _ h => ⟨timersSound_move c h.1, clockSound_move c h.2⟩

end Sys2Proof.Machine

/-! # Proofs: the host port's lines -/

namespace Sys2Proof.Machine

open Sys2Proof.Safety

theorem portSound_of_changes {l : List Part} {s t : State} (h : Changes l s t) (hl : l.contains .line = false)
    (hs : PortSound s) : PortSound t := by
  have hline := h.same .line hl
  simp only [Part.same, Prod.mk.injEq] at hline
  obtain ⟨hrx, hdropping, hhand, hinput⟩ := hline
  simpa only [PortSound, hrx, hdropping, hhand, hinput] using hs

/-- The handler takes the next of at most 4 lines, or of 5 when it holds none (R165). -/
theorem portSound_refill {s : State} {p : Port} (hlength : p.input.length ≤ 4)
    (hdropping : p.dropping = true → p.rx = []) : PortSound (s.withPort p.refill) := by
  unfold Port.refill
  split
  · next l rest _ hi =>
    rw [hi, List.length_cons] at hlength
    exact ⟨show rest.length ≤ 4 by omega, nofun, hdropping⟩
  · next hnone =>
    refine ⟨hlength, fun hh => ?_, hdropping⟩
    cases hi : p.input with
    | nil => exact hi
    | cons l rest => exact absurd hi (hnone l rest hh)

theorem portSound_arrive {s : State} {p : Port} (h : PortSound (s.withPort p)) (line : Text) :
    PortSound (s.withPort (p.arrive line)) := by
  unfold Port.arrive
  split
  · next hlt =>
    refine portSound_refill ?_ h.2.2
    simp
    omega
  · split
    · exact h
    · exact h

theorem portSound_judge {s : State} {p : Port} (h : PortSound (s.withPort p)) (line : List RxChar) :
    PortSound (s.withPort (p.judge line)) := by
  unfold Port.judge
  split
  · exact h
  · split
    · exact portSound_arrive h _
    · exact h

theorem portSound_endLine {s : State} (hs : PortSound s) : PortSound (s.withPort s.port.endLine) := by
  obtain ⟨hlength, hhand, _⟩ := hs
  have hcleared : ∀ b, PortSound (s.withPort { s.port with rx := [], dropping := b }) := fun _ =>
    ⟨hlength, hhand, fun _ => rfl⟩
  unfold Port.endLine
  split
  · exact hcleared false
  · exact portSound_judge (hcleared s.port.dropping) _

theorem portSound_assemble {s : State} (hs : PortSound s) (c : RxChar) :
    PortSound (s.withPort (s.port.assemble c)) := by
  obtain ⟨hlength, hhand, hdropping⟩ := hs
  unfold Port.assemble
  split
  · exact ⟨hlength, hhand, hdropping⟩
  · next h => exact ⟨hlength, hhand, fun hd => absurd hd h⟩

theorem portSound_taken {s : State} (hs : PortSound s) (c : Instr) : PortSound (s.taken c) := by
  obtain ⟨hlength, hhand, hdropping⟩ := hs
  have hport : (s.taken c).port = s.port.answered c := rfl
  obtain ⟨hrx, hdrop, _⟩ := s.port.answered_frame c
  refine ⟨?_, ?_, by rwa [hport, hrx, hdrop]⟩ <;> rw [hport] <;>
    rcases s.port.answered_cases c with e | ⟨l, _, hi, e⟩ | ⟨l, next, rest, _, hi, e⟩ <;> rw [e]
  · exact hlength
  · exact hlength
  · rw [hi, List.length_cons] at hlength
    exact Nat.le_of_succ_le hlength
  · exact hhand
  · exact fun _ => hi
  · exact nofun

theorem portSound_of_untouched {c : Instr} {s : State} (h : c ≠ .hardReset) (hl : (touches c).contains .line = false)
    (hs : PortSound s) : PortSound (moveOf c s) :=
  portSound_of_changes (moveOf_changes c s h) hl hs

theorem portSound_move (c : Instr) {s : State} (hs : PortSound s) : PortSound (moveOf c s) := by
  cases c with
  | hardReset => exact ⟨Nat.zero_le _, fun _ => rfl, nofun⟩
  | lineComplete => exact portSound_endLine hs
  | assemblyTimerExpiry =>
    simp only [moveOf]
    split
    · exact ⟨hs.1, hs.2.1, fun _ => rfl⟩
    · exact hs
  | unknownVerb => exact portSound_of_changes (Changes.rejectLine ..) rfl (portSound_taken hs _)
  | characterReceived =>
    simp only [moveOf]
    split
    · exact portSound_endLine hs
    · exact portSound_assemble hs _
  | _ => exact portSound_of_untouched nofun rfl hs

/-- Settles O18: lines join behind the one held, fewer than 4 waiting, and the handler takes the next as it answers one. -/
theorem everyStepKeepsThePortSound : Obligations.EveryStepKeepsThePortSound :=
  keptByEveryStep_of_move (fun _ _ h => h) (fun _ c h => portSound_taken h c)
    (fun s tag a => portSound_of_changes (Changes.reply s tag a) rfl) fun c _ => portSound_move c

end Sys2Proof.Machine

/-! # Proofs: the tables of the map store and the name index -/

namespace Sys2Proof.Machine

open Sys2Proof.Safety

/-- A property of the state before a request is one after it, if the effect keeps it where every check passes. -/
theorem checked_preserves {p : State → Prop} {checks : List (Bool × Answer)} {s : State}
    {take : State → State × Answer} (hs : p s) (h : (∀ q ∈ checks, q.1 = true) → p (take s).1) :
    p (checked checks s take).1 := by
  rcases checked_cases checks s take with ⟨_, _, e⟩ | ⟨hpass, e⟩ <;> rw [e]
  · exact hs
  · exact h ((firstFailing_none checks).mp hpass)

/-! ## The order of the name index (R11) -/

theorem nameLt_trans {a b c : Text} (h : nameLt a b = true) (k : nameLt b c = true) : nameLt a c = true := by
  induction a generalizing b c with
  | nil =>
    cases b with
    | nil => cases h
    | cons y b =>
      cases c with
      | nil => cases k
      | cons z c => rfl
  | cons x a ih =>
    cases b with
    | nil => cases h
    | cons y b =>
      cases c with
      | nil => cases k
      | cons z c =>
        have hx : x.toNat < y.toNat ∨ x.toNat = y.toNat ∧ nameLt a b = true := by
          simp only [nameLt] at h
          split at h
          · next hlt => exact .inl hlt
          · split at h
            · cases h
            · next h1 h2 => exact .inr ⟨by omega, h⟩
        have hy : y.toNat < z.toNat ∨ y.toNat = z.toNat ∧ nameLt b c = true := by
          simp only [nameLt] at k
          split at k
          · next hlt => exact .inl hlt
          · split at k
            · cases k
            · next h1 h2 => exact .inr ⟨by omega, k⟩
        simp only [nameLt]
        rcases hx with hx | ⟨hx, hab⟩
        · rw [if_pos (by omega)]
        · rcases hy with hy | ⟨hy, hbc⟩
          · rw [if_pos (by omega)]
          · rw [if_neg (by omega), if_neg (by omega)]
            exact ih hab hbc

theorem nameLt_total (a b : Text) : nameLt a b = true ∨ a = b ∨ nameLt b a = true := by
  induction a generalizing b with
  | nil =>
    cases b with
    | nil => exact .inr (.inl rfl)
    | cons y b => exact .inl rfl
  | cons x a ih =>
    cases b with
    | nil => exact .inr (.inr rfl)
    | cons y b =>
      simp only [nameLt]
      rcases Nat.lt_trichotomy x.toNat y.toNat with h | h | h
      · exact .inl (if_pos h)
      · have hxy : x = y := BitVec.eq_of_toNat_eq h
        subst hxy
        simp only [Nat.lt_irrefl, if_false]
        rcases ih b with h | h | h
        · exact .inl h
        · exact .inr (.inl (by rw [h]))
        · exact .inr (.inr h)
      · exact .inr (.inr (if_pos h))

theorem entryLt_trans {p q r : Text × Nat} (h : entryLt p q = true) (k : entryLt q r = true) : entryLt p r = true := by
  simp only [entryLt, Bool.or_eq_true, Bool.and_eq_true, beq_iff_eq, decide_eq_true_eq] at *
  rcases h with h | ⟨h, hi⟩
  · rcases k with k | ⟨k, _⟩
    · exact .inl (nameLt_trans h k)
    · exact .inl (k ▸ h)
  · rcases k with k | ⟨k, hj⟩
    · exact .inl (h ▸ k)
    · exact .inr ⟨h.trans k, hi.trans hj⟩

/-- Of two entries of different listings one comes first. -/
theorem entryLt_of_not {p q : Text × Nat} (h : ¬ entryLt p q = true) (hne : p.2 ≠ q.2) : entryLt q p = true := by
  simp only [entryLt, Bool.or_eq_true, Bool.and_eq_true, beq_iff_eq, decide_eq_true_eq] at *
  obtain ⟨hlt, hi⟩ := not_or.mp h
  rcases nameLt_total p.1 q.1 with h | h | h
  · exact absurd h hlt
  · exact .inr ⟨h.symm, Nat.lt_of_le_of_ne (Nat.le_of_not_lt fun hlt => hi ⟨h, hlt⟩) (Ne.symm hne)⟩
  · exact .inl h

theorem mem_insertName {idx : List (Text × Nat)} {e x : Text × Nat} : x ∈ insertName idx e ↔ x = e ∨ x ∈ idx := by
  induction idx with
  | nil => simp [insertName]
  | cons y idx ih =>
    unfold insertName
    split
    · simp
    · simp only [List.mem_cons, ih]
      tauto

theorem indexSorted_insertName {idx : List (Text × Nat)} (h : indexSorted idx) {e : Text × Nat}
    (hne : ∀ x ∈ idx, e.2 ≠ x.2) : indexSorted (insertName idx e) := by
  induction idx with
  | nil => simp [insertName, indexSorted]
  | cons y idx ih =>
    obtain ⟨hy, hrest⟩ := List.pairwise_cons.mp h
    unfold insertName
    split
    · next hlt =>
      refine List.pairwise_cons.mpr ⟨fun x hx => ?_, h⟩
      rcases List.mem_cons.mp hx with rfl | hx
      · exact hlt
      · exact entryLt_trans hlt (hy x hx)
    · next hlt =>
      refine List.pairwise_cons.mpr ⟨fun x hx => ?_, ih hrest fun x hx => hne x (List.mem_cons_of_mem _ hx)⟩
      rcases mem_insertName.mp hx with rfl | hx
      · exact entryLt_of_not hlt (hne y List.mem_cons_self)
      · exact hy x hx

theorem mem_removeName {idx : List (Text × Nat)} {i : Nat} {e : Text × Nat} :
    e ∈ removeName idx i ↔ e ∈ idx ∧ e.2 ≠ i := by
  simp [removeName]

/-! ## Listings that keep a field (R7, R9) -/

theorem Table.get_map {α : Type} (t : Table α) (f : α → α) (k : Nat) :
    Table.get (t.map fun q => (q.1, f q.2)) k = (t.get k).map f := by
  induction t with
  | nil => rfl
  | cons p t ih =>
    obtain ⟨i, v⟩ := p
    simp only [List.map_cons, Table.get]
    split
    · rfl
    · exact ih

/-- The same listings are defined, and each has the same value of `f`. -/
def ListingsKeep {β : Type} (f : Listing → β) (s t : State) : Prop :=
  (s.map.listings.wf → t.map.listings.wf) ∧ ∀ k, (t.map.listings.get k).map f = (s.map.listings.get k).map f

namespace ListingsKeep

theorem refl {β : Type} (f : Listing → β) (s : State) : ListingsKeep f s s := ⟨id, fun _ => rfl⟩

theorem trans {β : Type} {f : Listing → β} {s t u : State} (h : ListingsKeep f s t) (k : ListingsKeep f t u) :
    ListingsKeep f s u :=
  ⟨fun hs => k.1 (h.1 hs), fun i => (k.2 i).trans (h.2 i)⟩

theorem of_changes {β : Type} {f : Listing → β} {l : List Part} {s t : State} (h : Changes l s t)
    (hl : l.contains .listings = false) : ListingsKeep f s t := by
  have hlist : t.map.listings = s.map.listings := h.same .listings hl
  unfold ListingsKeep
  rw [hlist]
  exact ⟨id, fun _ => rfl⟩

theorem put {β : Type} {f : Listing → β} {s : State} {k : Nat} {l r : Listing} (hg : s.map.listings.get k = some r)
    (hf : f l = f r) : ListingsKeep f s (s.withMap { s.map with listings := s.map.listings.put k l }) := by
  refine ⟨fun h => Table.wf_put h k l, fun i => ?_⟩
  rw [State.withMap_map, Table.get_put]
  split
  · next h => rw [h, hg]; exact congrArg some hf
  · rfl

theorem map {β : Type} {f : Listing → β} (s : State) {g : Listing → Listing} (hf : ∀ l, f (g l) = f l) :
    ListingsKeep f s (s.withMap { s.map with listings := s.map.listings.map fun q => (q.1, g q.2) }) := by
  refine ⟨fun h => Table.wf_map h g, fun i => ?_⟩
  rw [State.withMap_map, Table.get_map]
  cases s.map.listings.get i with
  | none => rfl
  | some l => exact congrArg some (hf l)

theorem countDemand {β : Type} {f : Listing → β} (hf : ∀ (l : Listing) n, f { l with demand := n } = f l) (s : State)
    (d : Dest) : ListingsKeep f s (s.countDemand d) := by
  unfold State.countDemand
  split
  · split
    · exact refl f s
    · next h => exact put h (hf _ _)
  all_goals exact refl f s

theorem route {β : Type} {f : Listing → β} (hf : ∀ (l : Listing) n, f { l with demand := n } = f l) (a : RouteArgs)
    (s : State) : ListingsKeep f s (routeEffect a s).1 := by
  unfold routeEffect
  rcases checked_cases (routeChecks a s) s _ with ⟨_, _, e⟩ | ⟨_, e⟩ <;> rw [e]
  · exact refl f s
  · split
    · next o d _ _ =>
      exact (((of_changes (Changes.supersede s o) rfl).trans (countDemand hf _ d)).trans
        (of_changes (Changes.of_routeKeeps (.accept ..)) rfl)).trans
          ((of_changes (Changes.handId ..) rfl).trans (of_changes (Changes.settle _) rfl))
    · exact refl f s

theorem demand {β : Type} {f : Listing → β} (hf : ∀ (l : Listing) n, f { l with demand := n } = f l) (l c : Option Nat)
    (s : State) : ListingsKeep f s (demandEffect l c s).1 := by
  unfold demandEffect
  rcases checked_cases [inRange (optLe 1023 l && optLe 1 c)] s _ with ⟨_, _, e⟩ | ⟨_, e⟩ <;> rw [e]
  · exact refl f s
  · split
    · unfold demandAllEffect
      dsimp only
      split
      · exact map s fun _ => hf _ _
      · exact refl f s
    · unfold demandOneEffect
      split
      · exact refl f s
      · next h =>
        dsimp only
        split
        · exact put h (hf _ _)
        · exact refl f s

theorem minuteBoundary {β : Type} {f : Listing → β} (hf : ∀ (l : Listing) h, f { l with hours := h } = f l) (s : State)
    (now : DayTime) (b : Bool) : ListingsKeep f s (s.minuteBoundary now b) := by
  have h : ListingsKeep f s ((s.withClock { s.clock with clock := some now }).withMap { s.map with
      listings := s.map.listings.map fun q => (q.1, q.2.evaluate now.weekday now.minute) }) :=
    map (s.withClock { s.clock with clock := some now }) fun _ => hf _ _
  unfold State.minuteBoundary
  dsimp only
  split
  · exact h
  · exact h.trans ((of_changes (Changes.bump _) rfl).trans (of_changes (Changes.post ..) rfl))

theorem clock {β : Type} {f : Listing → β} (hf : ∀ (l : Listing) h, f { l with hours := h } = f l) (d m : Nat)
    (x : Option Nat) (s : State) : ListingsKeep f s (clockEffect d m x s).1 := by
  unfold clockEffect
  rcases checked_cases [inRange (m ≤ 1439 && optLe 59 x)] s _ with ⟨_, _, e⟩ | ⟨_, e⟩ <;> rw [e]
  · exact refl f s
  · split
    · exact refl f s
    · exact minuteBoundary hf ..

theorem second {β : Type} {f : Listing → β} (hf : ∀ (l : Listing) h, f { l with hours := h } = f l) (s : State) :
    ListingsKeep f s s.second := by
  have hadvance : ∀ t : State, ListingsKeep f t t.advanceClock := by
    intro t
    unfold State.advanceClock
    split
    · exact refl f t
    · split
      · exact minuteBoundary hf ..
      · exact of_changes (Changes.withDayClock ..) rfl
  unfold State.second
  exact (((of_changes (Changes.foldl Changes.takeExpiry _ s) rfl).trans (hadvance _)).trans
    (of_changes (Changes.countTimers _) rfl)).trans (of_changes (Changes.countIdle _) rfl)

/-- An OVERRIDE keeps what a listing has beside its override. -/
theorem override {β : Type} {f : Listing → β} (hf : ∀ (l : Listing) o, f { l with override := o } = f l) (i : Nat)
    (w : OverrideWord) (m : Option Nat) (s : State) : ListingsKeep f s (overrideEffect i w m s).1 := by
  unfold overrideEffect
  rcases checked_cases [inRange (i ≤ 1023 && optLe 1023 m), agrees ((overrideOf? w m).isSome && targetApart s i m),
    exists? ((s.map.listings.get i).isSome && targetDefined s m)] s _ with ⟨_, _, e⟩ | ⟨_, e⟩ <;> rw [e]
  · exact refl f s
  · split
    · next h _ => exact (put h (hf _ _)).trans (of_changes (Changes.bump _) rfl)
    · exact refl f s

end ListingsKeep

/-! ## The name index -/

theorem indexAgrees_of_keep {s t : State} (h : ListingsKeep Listing.name s t)
    (hi : t.map.nameIndex = s.map.nameIndex) (hs : IndexAgrees s) : IndexAgrees t := by
  obtain ⟨hwf, hsorted, hmem⟩ := hs
  obtain ⟨hkeep, hnames⟩ := h
  refine ⟨hkeep hwf, hi ▸ hsorted, fun e => ?_⟩
  rw [hi, hmem]
  have hname : ∀ u : State, (∃ l, u.map.listings.get e.2 = some l ∧ e.1 = foldName l.name)
      ↔ ∃ n, (u.map.listings.get e.2).map Listing.name = some n ∧ e.1 = foldName n := by
    intro u
    cases u.map.listings.get e.2 <;> simp
  rw [hname s, hname t, hnames]

theorem indexAgrees_of_changes {l : List Part} {s t : State} (h : Changes l s t) (hl : l.contains .listings = false)
    (hn : l.contains .nameIndex = false) (hs : IndexAgrees s) : IndexAgrees t :=
  indexAgrees_of_keep (.of_changes h hl) (h.same .nameIndex hn) hs

/-- A listing put under a name has its entry, and no other (R11). -/
theorem indexAgrees_put {s : State} (hs : IndexAgrees s) (i : Nat) (l : Listing) :
    IndexAgrees (s.withMap { s.map with
      listings := s.map.listings.put i l
      nameIndex := renameIn s.map.nameIndex i ((s.map.listings.get i).map Listing.name) l.name }) := by
  obtain ⟨hwf, hsorted, hmem⟩ := hs
  refine ⟨Table.wf_put hwf i l, ?_, fun e => ?_⟩ <;> simp only [State.withMap_map, renameIn]
  · split
    · exact hsorted
    · exact indexSorted_insertName (List.Pairwise.filter _ hsorted) fun x hx => Ne.symm (mem_removeName.mp hx).2
  · rw [Table.get_put]
    split
    · next hold =>
      rw [hmem]
      split
      · next he =>
        rw [he]
        cases hg : s.map.listings.get i with
        | none => simp [hg] at hold
        | some r =>
          have hr : foldName r.name = foldName l.name := by simpa [hg] using hold
          simp [hr]
      · exact Iff.rfl
    · rw [mem_insertName, mem_removeName, hmem]
      obtain ⟨n, k⟩ := e
      by_cases hk : k = i
      · simp [hk]
      · simp [hk]

theorem indexAgrees_erase {s : State} (hs : IndexAgrees s) (i : Nat) :
    IndexAgrees (s.withMap { s.map with
      listings := s.map.listings.erase i, nameIndex := removeName s.map.nameIndex i }) := by
  obtain ⟨hwf, hsorted, hmem⟩ := hs
  refine ⟨Table.wf_erase hwf i, List.Pairwise.filter _ hsorted, fun e => ?_⟩
  rw [State.withMap_map, mem_removeName, hmem, Table.get_erase]
  by_cases hk : e.2 = i
  · simp [hk]
  · simp [hk]

theorem indexAgrees_of_untouched {c : Instr} {s : State} (h : c ≠ .hardReset)
    (hl : (touches c).contains .listings = false) (hn : (touches c).contains .nameIndex = false) (hs : IndexAgrees s) :
    IndexAgrees (moveOf c s) :=
  indexAgrees_of_changes (moveOf_changes c s h) hl hn hs

theorem nameIndex_move {c : Instr} {s : State} (h : c ≠ .hardReset) (hn : (touches c).contains .nameIndex = false) :
    (moveOf c s).map.nameIndex = s.map.nameIndex :=
  (moveOf_changes c s h).same .nameIndex hn

theorem indexAgrees_empty {s : State} (hl : s.map.listings = []) (hn : s.map.nameIndex = []) : IndexAgrees s := by
  unfold IndexAgrees
  rw [hl, hn]
  exact ⟨List.Pairwise.nil, List.Pairwise.nil, fun e => by simp [Table.get]⟩

theorem indexAgrees_move (c : Instr) {s : State} (hs : IndexAgrees s) : IndexAgrees (moveOf c s) := by
  cases c with
  | hardReset => exact indexAgrees_empty rfl rfl
  | mapClear =>
    simp only [moveOf, mapClearEffect]
    rcases checked_cases [inLoad s] s _ with ⟨_, _, e⟩ | ⟨_, e⟩ <;> rw [e]
    · exact hs
    · exact indexAgrees_empty rfl rfl
  | listingPut _ i a =>
    simp only [moveOf, listingPutEffect]
    refine checked_preserves (p := IndexAgrees) hs fun _ => ?_
    split
    · exact hs
    · exact indexAgrees_put hs i _
  | listingRemove _ i a =>
    simp only [moveOf, listingRemoveEffect]
    exact checked_preserves (p := IndexAgrees) hs fun _ => indexAgrees_erase hs i
  | override _ i w m =>
    exact indexAgrees_of_keep (.override (fun _ _ => rfl) i w m s) (nameIndex_move (c := .override 0 i w m) nofun rfl) hs
  | demand _ l c =>
    exact indexAgrees_of_keep (.demand (fun _ _ => rfl) l c s) (nameIndex_move (c := .demand 0 l c) nofun rfl) hs
  | route _ a => exact indexAgrees_of_keep (.route (fun _ _ => rfl) a s) (nameIndex_move (c := .route 0 a) nofun rfl) hs
  | clock _ d m x =>
    exact indexAgrees_of_keep (.clock (fun _ _ => rfl) d m x s) (nameIndex_move (c := .clock 0 d m x) nofun rfl) hs
  | timebaseSecond =>
    exact indexAgrees_of_keep (.second (fun _ _ => rfl) s) (nameIndex_move (c := .timebaseSecond) nofun rfl) hs
  | _ => exact indexAgrees_of_untouched nofun rfl rfl hs

/-! ## The form of the tables -/

theorem nodesWf_move (c : Instr) {s : State} (hs : s.map.nodes.wf) : (moveOf c s).map.nodes.wf := by
  have huntouched : ∀ {c : Instr}, c ≠ .hardReset → (touches c).contains .nodes = false → (moveOf c s).map.nodes.wf :=
    fun {c} h hn => by
      have : (moveOf c s).map.nodes = s.map.nodes := (moveOf_changes c s h).same .nodes hn
      rwa [this]
  cases c with
  | hardReset => exact List.Pairwise.nil
  | mapClear =>
    exact checked_preserves (p := fun t => t.map.nodes.wf) hs fun _ => List.Pairwise.nil
  | nodePut _ i a =>
    refine checked_preserves (p := fun t => t.map.nodes.wf) hs fun _ => ?_
    split
    · exact hs
    · exact Table.wf_put hs i _
  | nodeRemove _ i a => exact checked_preserves (p := fun t => t.map.nodes.wf) hs fun _ => Table.wf_erase hs i
  | _ => exact huntouched nofun rfl

theorem segsWf_of_changes {l : List Part} {s t : State} (h : Changes l s t) (hl : l.contains .segs = false)
    (hs : s.map.segs.wf) : t.map.segs.wf := by
  have : t.map.segs = s.map.segs := h.same .segs hl
  rwa [this]

theorem segsWf_move (c : Instr) {s : State} (hs : s.map.segs.wf) : (moveOf c s).map.segs.wf := by
  have huntouched : ∀ {c : Instr}, c ≠ .hardReset → (touches c).contains .segs = false → (moveOf c s).map.segs.wf :=
    fun h hn => segsWf_of_changes (moveOf_changes _ s h) hn hs
  have hbumped : ∀ i g, (s.storeSeg i g).bump.map.segs.wf := fun i g =>
    segsWf_of_changes (Changes.bump _) rfl (Table.wf_put hs i g)
  cases c with
  | hardReset => exact List.Pairwise.nil
  | mapClear => exact checked_preserves (p := fun t => t.map.segs.wf) hs fun _ => List.Pairwise.nil
  | segPut _ i a =>
    refine checked_preserves (p := fun t => t.map.segs.wf) hs fun _ => ?_
    split
    · exact hs
    · exact Table.wf_put hs i _
  | segRemove _ i a => exact checked_preserves (p := fun t => t.map.segs.wf) hs fun _ => Table.wf_erase hs i
  | segState _ i v =>
    refine checked_preserves (p := fun t => t.map.segs.wf) hs fun _ => ?_
    split
    · exact hs
    · dsimp only
      split
      · exact hs
      · exact hbumped ..
  | segTrim _ i x =>
    refine checked_preserves (p := fun t => t.map.segs.wf) hs fun _ => ?_
    split
    · exact hs
    · exact hbumped ..
  | _ => exact huntouched nofun rfl

/-- Settles O9: a record is put or taken out at its place in its table; the index follows each put and removal of a listing,
and every other command keeps the listings' names. -/
theorem everyStepKeepsTheNameIndex : Obligations.EveryStepKeepsTheNameIndex := by
  refine keptByEveryStep_of_move (fun _ _ h => h) (fun _ _ h => h) (fun _ _ _ h => h) fun c s h => ?_
  obtain ⟨⟨hnodes, hsegs, _⟩, hindex⟩ := h
  have hindex' := indexAgrees_move c hindex
  exact ⟨⟨nodesWf_move c hnodes, segsWf_move c hsegs, hindex'.1⟩, hindex'⟩

end Sys2Proof.Machine

/-! # Proofs: a map that START would accept -/

namespace Sys2Proof.Machine

open Sys2Proof.Safety

/-! ## What the checks of START say (R17) -/

theorem Table.get_of_mem {α : Type} {t : Table α} (h : t.wf) {k : Nat} {x : α} (hm : (k, x) ∈ t) :
    t.get k = some x := by
  induction t with
  | nil => cases hm
  | cons p t ih =>
    obtain ⟨i, v⟩ := p
    obtain ⟨hlt, hrest⟩ := List.pairwise_cons.mp h
    simp only [Table.get]
    rcases List.mem_cons.mp hm with he | hm
    · cases he
      exact if_pos rfl
    · rw [if_neg (Nat.ne_of_lt (hlt (k, x) hm))]
      exact ih hrest hm

theorem Table.mem_iff_get {α : Type} {t : Table α} (h : t.wf) {k : Nat} {x : α} : (k, x) ∈ t ↔ t.get k = some x :=
  ⟨Table.get_of_mem h, Table.mem_of_get⟩

theorem firstBad_eq_none {α : Type} {bad : α → Bool} {t : Table α} (h : t.wf) :
    firstBad bad t = none ↔ ∀ k x, t.get k = some x → bad x = false := by
  simp only [firstBad, Option.map_eq_none_iff, List.find?_eq_none, Prod.forall, Table.mem_iff_get h, Bool.not_eq_true]

/-- Every segment joins defined nodes, and a LIFT has its group (checks 1 and 2 of R17). -/
def SegsValid (s : State) : Prop :=
  ∀ k g, s.map.segs.get k = some g → badEnds s.map g = false ∧ badGroup g = false

/-- Every door slot names a DOOR node (check 3 of R17). -/
def DoorsValid (s : State) : Prop := ∀ k l, s.map.listings.get k = some l → badDoors s.map l = false

/-- Every relocation target is another listing, and defined (check 4 of R17). -/
def TargetsValid (s : State) : Prop := ∀ k l, s.map.listings.get k = some l → badTarget s.map k l = false

/-- Every declared screen stands at a SCREEN_POINT node (check 5 of R17). -/
def PointsValid (s : State) : Prop := ∀ (n : Fin 48) (d : ScreenDecl), (s.screens[n]).map Screen.decl = some d →
  badPoint s.map d = false

/-- Some node is an EXIT (check 6 of R17). -/
def ExitDefined (s : State) : Prop := (s.map.nodes.any fun q => q.2.kind == .exit) = true

theorem invalid_eq_none {s : State} (hl : s.map.listings.wf) (hg : s.map.segs.wf) :
    s.invalid = none
      ↔ SegsValid s ∧ DoorsValid s ∧ TargetsValid s ∧ PointsValid s ∧ ExitDefined s := by
  have hsegs : SegsValid s ↔ firstBad (badEnds s.map) s.map.segs = none ∧ firstBad badGroup s.map.segs = none := by
    rw [firstBad_eq_none hg, firstBad_eq_none hg]
    exact ⟨fun h => ⟨fun k g hk => (h k g hk).1, fun k g hk => (h k g hk).2⟩, fun h k g hk => ⟨h.1 k g hk, h.2 k g hk⟩⟩
  have hdoors : DoorsValid s ↔ firstBad (badDoors s.map) s.map.listings = none := (firstBad_eq_none hl).symm
  have htargets : TargetsValid s ↔ (s.map.listings.find? fun q => badTarget s.map q.1 q.2) = none := by
    simp only [TargetsValid, List.find?_eq_none, Prod.forall, Table.mem_iff_get hl, Bool.not_eq_true]
  have hpoints : PointsValid s
      ↔ ((List.finRange 48).find? fun (n : Fin 48) => s.screens[n].any fun c => badPoint s.map c.decl) = none := by
    simp only [PointsValid, List.find?_eq_none, List.mem_finRange, forall_const, Bool.not_eq_true, Option.any_eq_false,
      Option.map_eq_some_iff]
    exact ⟨fun h n c hc => by simpa using h n c.decl ⟨c, hc, rfl⟩, fun h n d hd => by
      obtain ⟨c, hc, rfl⟩ := hd
      simpa using h n c hc⟩
  rw [hsegs, hdoors, htargets, hpoints, ExitDefined]
  unfold State.invalid
  constructor
  · intro h
    repeat' split at h
    all_goals first | (cases h; done) | exact ⟨⟨‹_›, ‹_›⟩, ‹_›, ‹_›, ‹_›, ‹_›⟩
  · rintro ⟨⟨h1, h2⟩, h3, h4, h5, h6⟩
    rw [h1, h2, h3, h4, h5]
    exact if_pos h6

/-! ## What each check reads -/

theorem segsValid_of_keep {s t : State} (hn : t.map.nodes = s.map.nodes)
    (hk : ∀ k, (t.map.segs.get k).map (fun g => (g.src, g.dst, g.kind, g.group))
      = (s.map.segs.get k).map fun g => (g.src, g.dst, g.kind, g.group)) (h : SegsValid s) : SegsValid t := by
  intro k g hg
  have hk := hk k
  rw [hg] at hk
  obtain ⟨r, hr, he⟩ := Option.map_eq_some_iff.mp hk.symm
  simp only [Prod.mk.injEq] at he
  obtain ⟨hsrc, hdst, hkind, hgroup⟩ := he
  have := h k r hr
  simpa only [badEnds, badGroup, hn, hsrc, hdst, hkind, hgroup] using this

theorem doorsValid_of_keep {s t : State} (hn : t.map.nodes = s.map.nodes) (hk : ListingsKeep Listing.doors s t)
    (h : DoorsValid s) : DoorsValid t := by
  intro k l hl
  have hk := hk.2 k
  rw [hl] at hk
  obtain ⟨r, hr, he⟩ := Option.map_eq_some_iff.mp hk.symm
  have := h k r hr
  simpa only [badDoors, hn, he] using this

/-- The same listings are defined where a field is kept. -/
theorem listingsKeep_isNone {β : Type} {f : Listing → β} {s t : State} (h : ListingsKeep f s t) (k : Nat) :
    (t.map.listings.get k).isNone = (s.map.listings.get k).isNone := by
  rw [← Option.isNone_map (f := f), h.2, Option.isNone_map]

theorem targetsValid_of_keep {s t : State} (hk : ListingsKeep Listing.override s t) (h : TargetsValid s) :
    TargetsValid t := by
  intro k l hl
  have hkeep := hk.2 k
  rw [hl] at hkeep
  obtain ⟨r, hr, he⟩ := Option.map_eq_some_iff.mp hkeep.symm
  have := h k r hr
  simpa only [badTarget, he, listingsKeep_isNone hk] using this

theorem pointsValid_of_keep {s t : State} (hn : t.map.nodes = s.map.nodes)
    (hd : Part.decls.same s t) (h : PointsValid s) : PointsValid t := by
  intro n d hd'
  have := h n d ((congrFun hd n).symm.trans hd')
  simpa only [badPoint, hn] using this

/-- The map that the checks read is the same but for states, trims, demand counts and schedule states. -/
structure MapKept (s t : State) : Prop where
  nodes : t.map.nodes = s.map.nodes
  segsWf : s.map.segs.wf → t.map.segs.wf
  segs : ∀ k, (t.map.segs.get k).map (fun g => (g.src, g.dst, g.kind, g.group))
    = (s.map.segs.get k).map fun g => (g.src, g.dst, g.kind, g.group)
  doors : ListingsKeep Listing.doors s t
  decls : Part.decls.same s t

theorem invalid_of_mapKept {s t : State} (h : MapKept s t) (htargets : TargetsValid s → TargetsValid t)
    (hl : s.map.listings.wf) (hg : s.map.segs.wf) (hv : s.invalid = none) : t.invalid = none := by
  obtain ⟨hsegs, hdoors, htargets', hpoints, hexit⟩ := (invalid_eq_none hl hg).mp hv
  refine (invalid_eq_none (h.doors.1 hl) (h.segsWf hg)).mpr ⟨segsValid_of_keep h.nodes h.segs hsegs,
    doorsValid_of_keep h.nodes h.doors hdoors, htargets htargets', pointsValid_of_keep h.nodes h.decls hpoints, ?_⟩
  unfold ExitDefined
  rw [h.nodes]
  exact hexit

theorem mapValid_of_mapKept {s t : State} (h : MapKept s t) (htargets : TargetsValid s → TargetsValid t)
    (hm : t.map.mode = s.map.mode) (hs : MapValid s) : MapValid t := by
  obtain ⟨hl, hg, hv⟩ := hs
  exact ⟨h.doors.1 hl, h.segsWf hg, fun hservice => invalid_of_mapKept h htargets hl hg (hv (hm ▸ hservice))⟩

/-- The parts that the checks of START read, but for segments and listings. -/
def leavesMap (l : List Part) : Bool := !l.contains .nodes && !l.contains .decls

theorem mapKept_of_changes {l : List Part} {s t : State} (h : Changes l s t) (hl : leavesMap l = true)
    (hsegs : l.contains .segs = false) (hlist : ListingsKeep Listing.doors s t) : MapKept s t := by
  simp only [leavesMap, Bool.and_eq_true, Bool.not_eq_true'] at hl
  obtain ⟨hn, hd⟩ := hl
  have hseg : t.map.segs = s.map.segs := h.same .segs hsegs
  exact ⟨h.same .nodes hn, fun hw => by rwa [hseg], fun k => by rw [hseg], hlist, h.same .decls hd⟩

theorem mapValid_of_changes {l : List Part} {s t : State} (h : Changes l s t) (hl : leavesMap l = true)
    (hsegs : l.contains .segs = false) (hlist : l.contains .listings = false) (hm : l.contains .mode = false)
    (hs : MapValid s) : MapValid t :=
  mapValid_of_mapKept (mapKept_of_changes h hl hsegs (.of_changes h hlist))
    (targetsValid_of_keep (.of_changes h hlist)) (h.same .mode hm) hs

/-- In LOAD a map need not be one that START would accept. -/
theorem mapValid_of_load {s : State} (hm : s.map.mode = .load) (hl : s.map.listings.wf) (hg : s.map.segs.wf) :
    MapValid s :=
  ⟨hl, hg, fun h => by rw [hm] at h; cases h⟩

/-- A request that LOAD alone takes leaves the map in LOAD. -/
theorem mapValid_inLoad {s : State} {checks : List (Bool × Answer)} {take : State → State × Answer}
    (hc : inLoad s ∈ checks) (hs : MapValid s)
    (h : s.map.mode = .load → (take s).1.map.mode = .load ∧ (take s).1.map.listings.wf ∧ (take s).1.map.segs.wf) :
    MapValid (checked checks s take).1 := by
  refine checked_preserves hs fun hpass => ?_
  obtain ⟨hm, hl, hg⟩ := h (beq_iff_eq.mp (hpass _ hc))
  exact mapValid_of_load hm hl hg

/-! ## Every step -/

theorem listingsKeep_storeSeg {β : Type} (f : Listing → β) (s : State) (k : Nat) (g : Seg) :
    ListingsKeep f s (s.storeSeg k g).bump :=
  ListingsKeep.of_changes (s := s.storeSeg k g) (Changes.bump _) rfl

theorem mapKept_storeSeg {s : State} {k : Nat} {g r : Seg} (hr : s.map.segs.get k = some r)
    (he : (g.src, g.dst, g.kind, g.group) = (r.src, r.dst, r.kind, r.group)) : MapKept s (s.storeSeg k g).bump := by
  have hb := Changes.bump (s.storeSeg k g)
  have hsegs : (s.storeSeg k g).bump.map.segs = s.map.segs.put k g := hb.same .segs rfl
  refine ⟨hb.same .nodes rfl, fun hw => hsegs ▸ Table.wf_put hw k g, fun i => ?_,
    listingsKeep_storeSeg _ s k g, hb.same .decls rfl⟩
  rw [hsegs, Table.get_put]
  split
  · next h => rw [h, hr]; exact congrArg some he
  · rfl

theorem mapValid_storeSeg {s : State} (hs : MapValid s) {k : Nat} {g r : Seg} (hr : s.map.segs.get k = some r)
    (he : (g.src, g.dst, g.kind, g.group) = (r.src, r.dst, r.kind, r.group)) : MapValid (s.storeSeg k g).bump :=
  have hb := Changes.bump (s.storeSeg k g)
  mapValid_of_mapKept (mapKept_storeSeg hr he) (targetsValid_of_keep (listingsKeep_storeSeg _ s k g)) (hb.same .mode rfl) hs

/-- An OVERRIDE taken in SERVICE names another listing that is defined (R9). -/
theorem targetsValid_override {s : State} {i : Nat} {l : Listing} {o : Override} (hl : s.map.listings.get i = some l)
    (ho : ∀ t, o = .relocated t → (s.map.listings.get t).isSome = true ∧ t ≠ i) (h : TargetsValid s) :
    TargetsValid (s.withMap { s.map with listings := s.map.listings.put i { l with override := o } }) := by
  have hdefined : ∀ t, ((s.map.listings.put i { l with override := o }).get t).isNone
      = (s.map.listings.get t).isNone := by
    intro t
    rw [Table.get_put]
    split
    · next ht => rw [ht, hl]; rfl
    · rfl
  intro k r hr
  rw [State.withMap_map, Table.get_put] at hr
  simp only [badTarget, State.withMap_map, hdefined]
  split at hr
  · next hk =>
    cases hr
    cases o with
    | relocated t =>
      obtain ⟨hsome, hne⟩ := ho t rfl
      simp [hk, hne, hsome]
    | _ => rfl
  · exact h k r hr

theorem mapValid_override {s : State} (hs : MapValid s) (i : Nat) (w : OverrideWord) (m : Option Nat) :
    MapValid (overrideEffect i w m s).1 := by
  unfold overrideEffect
  refine checked_preserves hs fun hpass => ?_
  have hagree : ((overrideOf? w m).isSome && targetApart s i m) = true :=
    hpass (agrees ((overrideOf? w m).isSome && targetApart s i m)) (by simp)
  have hexist : ((s.map.listings.get i).isSome && targetDefined s m) = true :=
    hpass (exists? ((s.map.listings.get i).isSome && targetDefined s m)) (by simp)
  simp only [Bool.and_eq_true, targetApart, targetDefined, Bool.or_eq_true, Bool.not_eq_true'] at hagree hexist
  obtain ⟨_, hapart⟩ := hagree
  obtain ⟨_, hdefined⟩ := hexist
  split
  · next l o hl ho =>
    have hput : ListingsKeep Listing.doors s
        (s.withMap { s.map with listings := s.map.listings.put i { l with override := o } }) := .put hl rfl
    have hkept : MapKept s (s.withMap { s.map with listings := s.map.listings.put i { l with override := o } }) :=
      ⟨rfl, id, fun _ => rfl, hput, rfl⟩
    refine mapValid_of_changes (Changes.bump _) rfl rfl rfl rfl ?_
    obtain ⟨hlw, hgw, hv⟩ := hs
    refine ⟨Table.wf_put hlw _ _, hgw, fun hservice => invalid_of_mapKept hkept (targetsValid_override hl fun t ht => ?_)
      hlw hgw (hv hservice)⟩
    have hin : s.inService = true := beq_iff_eq.mpr hservice
    have hm : m = some t := by
      cases w <;> cases m <;> simp_all [overrideOf?]
    rw [hin, hm] at hapart hdefined
    simp at hapart hdefined
    exact ⟨hdefined, hapart⟩
  · exact hs

theorem mapValid_start {s : State} (hs : MapValid s) : MapValid (startEffect s).1 := by
  unfold startEffect
  refine checked_preserves hs fun _ => ?_
  split
  · exact hs
  · next hv =>
    obtain ⟨hl, hg, _⟩ := hs
    have henter := Changes.enterService s
    have hkept : MapKept s s.enterService := mapKept_of_changes henter rfl rfl (.of_changes henter rfl)
    have hservice : MapValid s.enterService := by
      refine ⟨hkept.doors.1 hl, hkept.segsWf hg, fun _ => ?_⟩
      exact invalid_of_mapKept hkept (targetsValid_of_keep (.of_changes henter rfl)) hl hg hv
    dsimp only
    split
    · exact mapValid_of_changes (Changes.entryEvent ..) rfl rfl rfl rfl hservice
    · exact hservice

theorem leaveService_mode (s : State) : s.leaveService.map.mode = .load := by
  unfold State.leaveService
  exact (Changes.stopEvac_parts _).same .mode rfl

theorem mapValid_leaveService {s : State} (hs : MapValid s) : MapValid s.leaveService := by
  have h := Changes.leaveService s
  have hkept : MapKept s s.leaveService := mapKept_of_changes h rfl rfl (.of_changes h rfl)
  obtain ⟨hl, hg, _⟩ := hs
  exact mapValid_of_load (leaveService_mode s) (hkept.doors.1 hl) (hkept.segsWf hg)

theorem mapValid_of_untouched {c : Instr} {s : State} (h : c ≠ .hardReset) (hl : leavesMap (touches c) = true)
    (hsegs : (touches c).contains .segs = false) (hlist : (touches c).contains .listings = false)
    (hm : (touches c).contains .mode = false) (hs : MapValid s) : MapValid (moveOf c s) :=
  mapValid_of_changes (moveOf_changes c s h) hl hsegs hlist hm hs

/-- A command that keeps the doors and overrides of listings, and no other part of the map. -/
theorem mapValid_of_listingsKeep {c : Instr} {s : State} (h : c ≠ .hardReset) (hl : leavesMap (touches c) = true)
    (hsegs : (touches c).contains .segs = false) (hm : (touches c).contains .mode = false)
    (hk : ListingsKeep (fun l => (l.doors, l.override)) s (moveOf c s)) (hs : MapValid s) : MapValid (moveOf c s) := by
  have hproj : ∀ {β : Type} (g : List Nat × Override → β),
      ListingsKeep (fun l => g (l.doors, l.override)) s (moveOf c s) := fun g => ⟨hk.1, fun k => by
    have := congrArg (Option.map g) (hk.2 k)
    simpa only [Option.map_map, Function.comp_def] using this⟩
  have hc := moveOf_changes c s h
  exact mapValid_of_mapKept (mapKept_of_changes hc hl hsegs (hproj Prod.fst)) (targetsValid_of_keep (hproj Prod.snd))
    (hc.same .mode hm) hs

theorem mapValid_move (c : Instr) {s : State} (hs : MapValid s) : MapValid (moveOf c s) := by
  have hwf := hs
  obtain ⟨hl, hg, _⟩ := hwf
  cases c with
  | hardReset => exact mapValid_of_load rfl List.Pairwise.nil List.Pairwise.nil
  | start => exact mapValid_start hs
  | stop => exact checked_preserves hs fun _ => mapValid_leaveService hs
  | mapClear =>
    exact mapValid_inLoad List.mem_cons_self hs fun hm => ⟨hm, List.Pairwise.nil, List.Pairwise.nil⟩
  | nodePut _ i a =>
    refine mapValid_inLoad List.mem_cons_self hs fun hm => ?_
    split <;> exact ⟨hm, hl, hg⟩
  | nodeRemove => exact mapValid_inLoad List.mem_cons_self hs fun hm => ⟨hm, hl, hg⟩
  | segPut _ i a =>
    refine mapValid_inLoad List.mem_cons_self hs fun hm => ?_
    split
    · exact ⟨hm, hl, hg⟩
    · exact ⟨hm, hl, Table.wf_put hg i _⟩
  | segRemove _ i =>
    exact mapValid_inLoad List.mem_cons_self hs fun hm => ⟨hm, hl, Table.wf_erase hg i⟩
  | segState _ i v =>
    refine checked_preserves hs fun _ => ?_
    split
    · exact hs
    · next h =>
      dsimp only
      split
      · exact hs
      · exact mapValid_storeSeg hs h rfl
  | segTrim _ i x =>
    refine checked_preserves hs fun _ => ?_
    split
    · exact hs
    · next h => exact mapValid_storeSeg hs h rfl
  | listingPut _ i a =>
    refine mapValid_inLoad (List.mem_cons_of_mem _ List.mem_cons_self) hs fun hm => ?_
    split
    · exact ⟨hm, hl, hg⟩
    · exact ⟨hm, Table.wf_put hl i _, hg⟩
  | listingRemove _ i =>
    exact mapValid_inLoad List.mem_cons_self hs fun hm => ⟨hm, Table.wf_erase hl i, hg⟩
  | screenDeclare =>
    refine mapValid_inLoad List.mem_cons_self hs fun hm => ?_
    split <;> exact ⟨hm, hl, hg⟩
  | screenUndeclare =>
    refine mapValid_inLoad List.mem_cons_self hs fun hm => ?_
    split
    · exact ⟨hm, hl, hg⟩
    · split <;> exact ⟨hm, hl, hg⟩
  | override _ i w m => exact mapValid_override hs i w m
  | demand _ l c => exact mapValid_of_listingsKeep nofun rfl rfl rfl (.demand (fun _ _ => rfl) l c s) hs
  | route _ a => exact mapValid_of_listingsKeep nofun rfl rfl rfl (.route (fun _ _ => rfl) a s) hs
  | clock _ d m x => exact mapValid_of_listingsKeep nofun rfl rfl rfl (.clock (fun _ _ => rfl) d m x s) hs
  | timebaseSecond => exact mapValid_of_listingsKeep nofun rfl rfl rfl (.second (fun _ _ => rfl) s) hs
  | _ => exact mapValid_of_untouched nofun rfl rfl rfl rfl hs

/-- Settles O10: structure changes in LOAD alone, START validates it, and an OVERRIDE in SERVICE relocates to another
listing that is defined. -/
theorem everyStepKeepsTheMapValid : Obligations.EveryStepKeepsTheMapValid :=
  keptByEveryStep_of_move (fun _ _ h => h)
    (fun s c => mapValid_of_changes (Changes.taken s c) rfl rfl rfl rfl)
    (fun s tag a => mapValid_of_changes (Changes.reply s tag a) rfl rfl rfl rfl) fun c _ => mapValid_move c

end Sys2Proof.Machine

/-! # Proofs: commands as acts on the route machinery

What a command of another block does to the parts that routes, sessions and evacuation read is one after another of a few
acts: a change aside, a notice that is no result, a bump, a second of the idle timers. An invariant over those parts then
has to be shown for the acts, and for the commands that act on these parts themselves. -/

namespace Sys2Proof.Machine

open Sys2Proof.Safety

/-- The parts that routes, sessions, evacuation and the outcomes owed rest on. -/
def routeParts : List Part :=
  [.mode, .generation, .decls, .sessions, .entries, .units, .failures, .evacState, .due, .ack, .notices]

/-- Two states with the same route parts. -/
structure RouteSame (s t : State) : Prop where
  mode : t.map.mode = s.map.mode
  generation : t.map.generation = s.map.generation
  screens : t.screens = s.screens
  queue : t.queue = s.queue
  units : t.units = s.units
  failures : t.watches.failures = s.watches.failures
  evacState : t.evac.state = s.evac.state
  due : t.evac.due = s.evac.due
  ack : t.evac.ack = s.evac.ack
  notices : t.port.notices = s.port.notices

theorem RouteSame.of_changes {l : List Part} {s t : State} (h : Changes l s t)
    (hl : (l.all fun p => !routeParts.contains p) = true) : RouteSame s t := by
  have hpart : ∀ p : Part, routeParts.contains p = true → p.same s t := by
    intro p hp
    refine h.same p ?_
    by_contra hmem
    have hmem : p ∈ l := by simpa using hmem
    have := List.all_eq_true.mp hl p hmem
    simp only [hp] at this
    cases this
  have hnotices := hpart .notices rfl
  simp only [Part.same, Prod.mk.injEq] at hnotices
  exact ⟨hpart .mode rfl, hpart .generation rfl, hpart .sessions rfl, hpart .entries rfl, hpart .units rfl,
    hpart .failures rfl, hpart .evacState rfl, hpart .due rfl, hpart .ack rfl, hnotices.1⟩

/-- One act of a command of another block on the route parts. -/
inductive Act : State → State → Prop
  | aside {s t : State} (h : RouteSame s t) : Act s t
  | post (s : State) (n : Notice) (h : n.isResult = false) : Act s (s.post n)
  | bump (s : State) : Act s s.bump
  | countIdle (s : State) : Act s s.countIdle
  | clearFailures (s : State) : Act s (s.withWatches { s.watches with failures := 0 })

/-- Acts, one after another. -/
inductive Acts : State → State → Prop
  | refl (s : State) : Acts s s
  | tail {s t u : State} (h : Acts s t) (k : Act t u) : Acts s u

namespace Acts

theorem trans {s t u : State} (h : Acts s t) (k : Acts t u) : Acts s u := by
  induction k with
  | refl => exact h
  | tail _ a ih => exact ih.tail a

theorem single {s t : State} (h : Act s t) : Acts s t := (refl s).tail h

/-- A property that every act keeps is kept by acts one after another. -/
theorem keeps {p : State → Prop} (hact : ∀ {s t}, Act s t → p s → p t) {s t : State} (h : Acts s t) (hs : p s) :
    p t := by
  induction h with
  | refl => exact hs
  | tail _ a ih => exact hact a ih

theorem aside {l : List Part} {s t : State} (h : Changes l s t) (hl : (l.all fun p => !routeParts.contains p) = true) :
    Acts s t := single (.aside (.of_changes h hl))

theorem post (s : State) (n : Notice) (h : n.isResult = false) : Acts s (s.post n) := single (.post s n h)

theorem bump (s : State) : Acts s s.bump := single (.bump s)

theorem foldl {α : Type} {f : State → α → State} (l : List α) (h : ∀ s, ∀ a ∈ l, Acts s (f s a)) (s : State) :
    Acts s (l.foldl f s) := by
  induction l generalizing s with
  | nil => exact refl s
  | cons a l ih =>
    exact (h s a List.mem_cons_self).trans (ih (fun s b hb => h s b (List.mem_cons_of_mem a hb)) (f s a))

theorem ite {s t u : State} {b : Prop} [Decidable b] (ht : Acts s t) (hu : Acts s u) : Acts s (if b then t else u) := by
  split
  · exact ht
  · exact hu

theorem checked {checks : List (Bool × Answer)} {s : State} {take : State → State × Answer} (h : Acts s (take s).1) :
    Acts s (checked checks s take).1 :=
  checked_preserves (p := Acts s) (refl s) fun _ => h

theorem bumpIf (s : State) (b : Bool) : Acts s (s.bumpIf b) := ite (bump s) (refl s)

theorem segState (i : Nat) (v : OpenState) (s : State) : Acts s (segStateEffect i v s).1 := by
  refine checked ?_
  split
  · exact refl s
  · exact ite (refl s) ((aside (Changes.storeSeg ..) rfl).trans (bump _))

theorem segTrim (i x : Nat) (s : State) : Acts s (segTrimEffect i x s).1 := by
  refine checked ?_
  split
  · exact refl s
  · exact (aside (Changes.storeSeg ..) rfl).trans (bump _)

theorem liftWait (g w : Nat) (s : State) : Acts s (liftWaitEffect g w s).1 := by
  refine checked ?_
  split
  · exact refl s
  · exact (aside (Changes.withLiftWaits ..) rfl).trans (bump _)

theorem override (i : Nat) (w : OverrideWord) (m : Option Nat) (s : State) : Acts s (overrideEffect i w m s).1 := by
  refine checked ?_
  split
  · exact (aside (Changes.withListings ..) rfl).trans (bump _)
  · exact refl s

theorem paceWrite (p : Profile) (k : Option SegKind) (v : Nat) (s : State) : Acts s (paceWriteEffect p k v s).1 := by
  refine checked ?_
  split
  · exact refl s
  · exact (aside (Changes.withPace ..) rfl).trans (bumpIf ..)

theorem multWrite (p : Profile) (c : Option ZoneClass) (v : Nat) (s : State) : Acts s (multWriteEffect p c v s).1 := by
  refine checked ?_
  split
  · exact refl s
  · exact (aside (Changes.withMult ..) rfl).trans (bumpIf ..)

theorem stuckExpires (s : State) (g : Fin 32) (beam : Beam) : Acts s (s.stuckExpires g beam) :=
  (((aside (Changes.modifyGate ..) rfl).trans (aside (Changes.modifySide ..) rfl)).trans
    (aside (Changes.modifySide ..) rfl)).trans (post _ _ rfl)

theorem setClosed (s : State) (z : Fin 32) (b : Bool) : Acts s (s.setClosed z b) :=
  ite (refl s) ((aside (Changes.modifyZone ..) rfl).trans (bump _))

theorem closure (i : Nat) (b : Bool) (s : State) : Acts s (closureEffect i b s).1 := by
  unfold closureEffect
  split
  · exact refl s
  · exact setClosed ..

/-- The notices of a change of classes are ZONE_CLASS notices (R95). -/
theorem classNotices_isResult {v w : Vector Zone 32} {t : Nat} {n : Notice} (h : n ∈ classNotices v w t) :
    n.isResult = false := by
  unfold classNotices at h
  obtain ⟨z, _, hz⟩ := List.mem_filterMap.mp h
  split at hz
  · cases hz
  · cases hz
    rfl

theorem reportClasses (s : State) (v : Vector Zone 32) : Acts s (s.reportClasses v) :=
  (foldl _ (fun s n hn => post s n (classNotices_isResult hn)) s).trans (bumpIf ..)

theorem censusZero (s : State) : Acts s (censusZeroEffect s).1 :=
  (aside (Changes.withZones ..) rfl).trans (reportClasses ..)

theorem reportFiring (s : State) (w : Fin 8) (a : WatchAction) (v : Nat) (b : Bool) :
    Acts s (s.reportFiring w a v b) :=
  (aside (Changes.modifyWatch ..) rfl).trans (post _ _ rfl)

theorem fire (s : State) (w : Fin 8) (a : WatchAction) (v : Nat) : Acts s (s.fire w a v) := by
  have hto : ∀ (t : State) (st : WatchState), Acts t ((t.watchTo w st).returnPredecessor w) := fun t st =>
    (aside (Changes.modifyWatch ..) rfl).trans (aside (Changes.returnPredecessor ..) rfl)
  unfold State.fire
  cases a with
  | report => exact (reportFiring ..).trans (hto ..)
  | pulse => exact ((reportFiring ..).trans (aside (Changes.withAlerts ..) rfl)).trans (hto ..)
  | freeze => exact ((reportFiring ..).trans (aside (Changes.withFrozen ..) rfl)).trans (hto ..)
  | apply => exact ((reportFiring ..).trans (setClosed ..)).trans (hto ..)
  | stage =>
    refine Acts.trans ?_ (aside (Changes.returnPredecessor ..) rfl)
    split
    · exact aside (Changes.modifyWatch ..) rfl
    · exact (aside (Changes.modifyWatch ..) rfl).trans (aside (Changes.modifyWatch ..) rfl)

theorem watchTurn (s : State) (w : Fin 8) : Acts s (s.watchTurn w) := by
  unfold State.watchTurn
  dsimp only
  split
  · exact ite (ite (fire ..) (aside (Changes.modifyWatch ..) rfl)) (refl s)
  · exact refl s

theorem evaluateWatches (s : State) : Acts s s.evaluateWatches := foldl _ (fun s w _ => watchTurn s w) s

theorem classified (s : State) : Acts s s.classified := by
  unfold State.classified
  exact (aside (Changes.withTickZones ..) rfl).trans (reportClasses ..)

theorem censusTick (s : State) : Acts s s.censusTick := by
  rw [censusTick_eq]
  exact ((classified s).trans (aside (Changes.record _) rfl)).trans (evaluateWatches _)

theorem fallEvac (s : State) : Acts s s.fallEvac := by
  unfold State.fallEvac
  split
  · exact refl s
  all_goals exact post _ _ rfl

theorem resyncFollowers (s : State) (n : Nat) : Acts s (s.resyncFollowers n) :=
  foldl _ (fun _ _ _ => ite ((aside (Changes.modifyTimer ..) rfl).trans (post _ _ rfl)) (refl _)) s

theorem takeExpiry (s : State) (k : Fin 8) : Acts s (s.takeExpiry k) := by
  have h : ∀ n, n.isResult = false → Acts s ((s.modifyTimer k CadenceTimer.stepPage).post n) := fun n hn =>
    (aside (Changes.modifyTimer ..) rfl).trans (post _ _ hn)
  refine ite ?_ (refl s)
  unfold State.expirePeriod
  exact ite ((h _ rfl).trans (resyncFollowers ..)) (h _ rfl)

theorem minuteBoundary (s : State) (now : DayTime) (b : Bool) : Acts s (s.minuteBoundary now b) := by
  have h : ∀ t, Acts s ((s.withClock { s.clock with clock := some now }).withMap
      { (s.withClock { s.clock with clock := some now }).map with listings := t }) := fun t =>
    (aside (Changes.withDayClock ..) rfl).trans (aside (Changes.withListings ..) rfl)
  unfold State.minuteBoundary
  dsimp only
  exact ite (h _) (((h _).trans (bump _)).trans (post _ _ rfl))

theorem advanceClock (s : State) : Acts s s.advanceClock := by
  unfold State.advanceClock
  split
  · exact refl s
  · exact ite (minuteBoundary ..) (aside (Changes.withDayClock ..) rfl)

theorem second (s : State) : Acts s s.second := by
  unfold State.second
  exact (((foldl _ (fun s k _ => takeExpiry s k) s).trans (advanceClock _)).trans
    (aside (Changes.countTimers _) rfl)).trans (single (.countIdle _))

theorem clock (d m : Nat) (x : Option Nat) (s : State) : Acts s (clockEffect d m x s).1 := by
  refine checked ?_
  split
  · exact refl s
  · exact minuteBoundary ..

end Acts

/-- The commands that move the route parts themselves. -/
def movesRoutes : Instr → Bool
  | .hardReset | .fetch _ | .start _ | .stop _ | .mapClear _ | .screenDeclare _ _ _ | .screenUndeclare _ _ _
  | .route _ _ | .routeCancel _ _ | .completionEvent _ | .nav _ _ _ | .back _ _ | .backRestore _ _ | .home _ _
  | .prefs _ _ _ _ | .tap _ _ | .idleTimerExpiry _ | .evacInRise | .evac _ | .evacEnd _ => true
  | _ => false

/-- Every other command moves the route parts by acts alone. -/
theorem moveOf_acts (c : Instr) (s : State) (h : movesRoutes c = false) : Acts s (moveOf c s) := by
  have huntouched : ∀ {c : Instr}, c ≠ .hardReset → ((touches c).all fun p => !routeParts.contains p) = true →
      Acts s (moveOf c s) := fun hc hl => .aside (moveOf_changes _ s hc) hl
  cases c with
  | hardReset | fetch | start | stop | mapClear | screenDeclare | screenUndeclare | route | routeCancel
  | completionEvent | nav | back | backRestore | home | prefs | tap | idleTimerExpiry | evacInRise | evac
  | evacEnd => cases h
  | status _ c => exact .checked (.ite (.single (.clearFailures s)) (.refl s))
  | segState _ i v => exact .segState i v s
  | segTrim _ i x => exact .segTrim i x s
  | liftWait _ g w => exact .liftWait g w s
  | override _ i w m => exact .override i w m s
  | paceWrite _ p k v => exact .paceWrite p k v s
  | multWrite _ p c v => exact .multWrite p c v s
  | stuckTimerExpiry => exact .ite (.stuckExpires ..) (.refl s)
  | recoveryTimerExpiry => exact .ite ((Acts.aside (Changes.modifyGate ..) rfl).trans (.post _ _ rfl)) (.refl s)
  | censusTick => exact .censusTick s
  | zoneClose _ i => exact .closure i true s
  | zoneOpen _ i => exact .closure i false s
  | censusZero => exact .censusZero s
  | evacInFall => exact .ite ((Acts.aside (Changes.evacLevel ..) rfl).trans (.fallEvac _)) (.refl s)
  | timebaseSecond => exact .second s
  | cadencePeriodExpiry k => exact .takeExpiry s k
  | clock _ d m x => exact .clock d m x s
  | _ => exact huntouched nofun rfl

end Sys2Proof.Machine

/-! # Proofs: counters and cost tables in their ranges -/

namespace Sys2Proof.Machine

open Sys2Proof.Safety

/-! ## Occupancies (R91) -/

/-- Every occupancy is at most 9,999. -/
def OccupanciesBounded (s : State) : Prop := ∀ z : Fin 32, s.census.zones[z].occupancy ≤ 9999

theorem occupancy_enter {z : Zone} (h : z.occupancy ≤ 9999) : z.enter.occupancy ≤ 9999 := by
  unfold Zone.enter
  split
  · next hlt => exact hlt
  · exact h

theorem occupancy_leave {z : Zone} (h : z.occupancy ≤ 9999) : z.leave.occupancy ≤ 9999 := by
  unfold Zone.leave
  split
  · exact (Nat.sub_le ..).trans h
  · exact h

theorem Zone.tick_occupancy (z : Zone) : z.tick.occupancy = z.occupancy := by
  unfold Zone.tick Zone.classify Zone.bringDown
  repeat' split
  all_goals rfl

theorem Zone.configure_occupancy (z : Zone) (a : ZoneArgs) : (z.configure a).occupancy = z.occupancy := by
  have hlimits : (z.storeLimits a).occupancy = z.occupancy := by
    unfold Zone.storeLimits
    dsimp only
    split <;> rfl
  unfold Zone.configure Zone.setEnable Zone.turnOn Zone.turnOff
  repeat' split
  all_goals exact hlimits

theorem occupanciesBounded_of_changes {l : List Part} {s t : State} (h : Changes l s t)
    (hz : l.contains .zones = false) (hs : OccupanciesBounded s) : OccupanciesBounded t := by
  have hzones : t.census.zones = s.census.zones := h.same .zones hz
  simpa only [OccupanciesBounded, hzones] using hs

theorem occupanciesBounded_modifyZone {s : State} (hs : OccupanciesBounded s) (z : Fin 32) {f : Zone → Zone}
    (hf : s.census.zones[z].occupancy ≤ 9999 → (f s.census.zones[z]).occupancy ≤ 9999) :
    OccupanciesBounded (s.modifyZone z f) := by
  intro k
  rw [State.modifyZone_census, modifyAt_get]
  split
  · next h => subst h; exact hf (hs z)
  · exact hs k

theorem occupanciesBounded_modifySide {s : State} (hs : OccupanciesBounded s) (side : Option (Fin 32)) {f : Zone → Zone}
    (hf : ∀ z : Zone, z.occupancy ≤ 9999 → (f z).occupancy ≤ 9999) : OccupanciesBounded (s.modifySide side f) := by
  unfold State.modifySide
  split
  · exact hs
  · exact occupanciesBounded_modifyZone hs _ (hf _)

theorem occupanciesBounded_cross {s : State} (hs : OccupanciesBounded s) (g : Fin 32) (c : Crossing) :
    OccupanciesBounded (s.cross g c) := by
  have henter : ∀ z : Zone, z.occupancy ≤ 9999 → z.enter.occupancy ≤ 9999 := fun _ => occupancy_enter
  have hleave : ∀ z : Zone, z.occupancy ≤ 9999 → z.leave.occupancy ≤ 9999 := fun _ => occupancy_leave
  cases c with
  | inbound =>
    exact occupanciesBounded_of_changes (Changes.modifyGate ..) rfl
      (occupanciesBounded_modifySide (occupanciesBounded_modifySide hs _ henter) _ hleave)
  | outbound =>
    exact occupanciesBounded_of_changes (Changes.modifyGate ..) rfl
      (occupanciesBounded_modifySide (occupanciesBounded_modifySide hs _ hleave) _ henter)

theorem occupanciesBounded_gateTakes {s : State} (hs : OccupanciesBounded s) (g : Fin 32) (f : Gate → Gate) :
    OccupanciesBounded (s.gateTakes g f) :=
  foldl_keeps (p := OccupanciesBounded) (fun _ c h => occupanciesBounded_cross h g c) _
    (occupanciesBounded_of_changes (Changes.modifyGate ..) rfl hs)

theorem occupanciesBounded_setClosed {s : State} (hs : OccupanciesBounded s) (z : Fin 32) (b : Bool) :
    OccupanciesBounded (s.setClosed z b) := by
  unfold State.setClosed
  split
  · exact hs
  · exact occupanciesBounded_of_changes (Changes.bump _) rfl (occupanciesBounded_modifyZone hs z id)

theorem occupanciesBounded_watchTurn {s : State} (hs : OccupanciesBounded s) (w : Fin 8) :
    OccupanciesBounded (s.watchTurn w) := by
  have hreport : ∀ a v b, OccupanciesBounded (s.reportFiring w a v b) := fun a v b =>
    occupanciesBounded_of_changes (Changes.reportFiring ..) rfl hs
  have hto : ∀ {t : State} (st : WatchState), OccupanciesBounded t →
      OccupanciesBounded ((t.watchTo w st).returnPredecessor w) := fun st h =>
    occupanciesBounded_of_changes ((Changes.modifyWatch ..).trans (Changes.returnPredecessor ..)) rfl h
  unfold State.watchTurn
  dsimp only
  split
  · next a _ _ _ =>
    split
    · split
      · unfold State.fire
        cases a with
        | report => exact hto _ (hreport _ _ _)
        | pulse => exact hto _ (occupanciesBounded_of_changes (Changes.withAlerts ..) rfl (hreport _ _ _))
        | freeze => exact hto _ (occupanciesBounded_of_changes (Changes.withFrozen ..) rfl (hreport _ _ _))
        | apply => exact hto _ (occupanciesBounded_setClosed (hreport _ _ _) _ _)
        | stage =>
          refine occupanciesBounded_of_changes (Changes.returnPredecessor ..) rfl ?_
          split
          · exact occupanciesBounded_of_changes (Changes.modifyWatch ..) rfl hs
          · exact occupanciesBounded_of_changes ((Changes.modifyWatch ..).trans (Changes.modifyWatch ..)) rfl hs
      · exact occupanciesBounded_of_changes (Changes.modifyWatch ..) rfl hs
    · exact hs
  · exact hs

theorem occupanciesBounded_zones {s : State} {n : Nat} {v : Vector Zone 32}
    (h : ∀ z : Fin 32, v[z].occupancy ≤ 9999) :
    OccupanciesBounded (s.withCensus { s.census with tick := n, zones := v }) := h

theorem occupanciesBounded_mapFin {s : State} (hs : OccupanciesBounded s) {f : Zone → Zone}
    (hf : ∀ z : Zone, z.occupancy ≤ 9999 → (f z).occupancy ≤ 9999) (n : Nat) :
    OccupanciesBounded (s.withCensus { s.census with tick := n, zones := mapFin (fun _ z => f z) s.census.zones }) := by
  refine occupanciesBounded_zones fun z => ?_
  rw [mapFin_get]
  exact hf _ (hs z)

theorem occupanciesBounded_classified {s : State} (hs : OccupanciesBounded s) : OccupanciesBounded s.classified := by
  unfold State.classified Census.classed
  exact occupanciesBounded_of_changes (Changes.reportClasses ..) rfl
    (occupanciesBounded_mapFin hs (fun z h => (Zone.tick_occupancy z).le.trans h) _)

theorem occupanciesBounded_censusTick {s : State} (hs : OccupanciesBounded s) : OccupanciesBounded s.censusTick := by
  rw [censusTick_eq]
  unfold State.evaluateWatches
  exact foldl_keeps (p := OccupanciesBounded) (fun _ w h => occupanciesBounded_watchTurn h w) _
    (occupanciesBounded_of_changes (Changes.record _) rfl (occupanciesBounded_classified hs))

theorem occupanciesBounded_censusZero {s : State} (hs : OccupanciesBounded s) :
    OccupanciesBounded (censusZeroEffect s).1 := by
  unfold censusZeroEffect Census.zeroed
  dsimp only
  exact occupanciesBounded_of_changes (Changes.reportClasses ..) rfl
    (occupanciesBounded_mapFin hs (fun _ _ => Nat.zero_le _) s.census.tick)

theorem occupanciesBounded_closure {s : State} (hs : OccupanciesBounded s) (i : Nat) (b : Bool) :
    OccupanciesBounded (closureEffect i b s).1 := by
  unfold closureEffect
  split
  · exact hs
  · exact occupanciesBounded_setClosed hs _ _

theorem occupanciesBounded_move (c : Instr) {s : State} (hs : OccupanciesBounded s) :
    OccupanciesBounded (moveOf c s) := by
  have huntouched : ∀ {c : Instr}, c ≠ .hardReset → (touches c).contains .zones = false →
      OccupanciesBounded (moveOf c s) := fun hc hz => occupanciesBounded_of_changes (moveOf_changes _ s hc) hz hs
  cases c with
  | hardReset =>
    intro z
    have : (moveOf .hardReset s).census.zones[z] = Zone.reset := Vector.getElem_replicate ..
    rw [this]
    exact Nat.zero_le _
  | beamEvent | pairEvent =>
    simp only [moveOf]
    split
    · exact occupanciesBounded_gateTakes hs _ _
    · exact hs
  | stuckTimerExpiry g beam =>
    have hest : ∀ z : Zone, z.occupancy ≤ 9999 → z.estimate.occupancy ≤ 9999 := fun _ h => h
    simp only [moveOf]
    split
    · exact occupanciesBounded_of_changes (Changes.post ..) rfl (occupanciesBounded_modifySide
        (occupanciesBounded_modifySide (occupanciesBounded_of_changes (Changes.modifyGate ..) rfl hs) _ hest) _ hest)
    · exact hs
  | zone _ i a =>
    simp only [moveOf, zoneEffect]
    split
    · exact hs
    · exact checked_preserves hs fun _ => occupanciesBounded_modifyZone hs _
        fun h => (Zone.configure_occupancy _ a).le.trans h
  | censusTick => exact occupanciesBounded_censusTick hs
  | zoneClose _ i => exact occupanciesBounded_closure hs i true
  | zoneOpen _ i => exact occupanciesBounded_closure hs i false
  | occupancy _ i n =>
    simp only [moveOf, occupancyEffect]
    split
    · exact hs
    · exact occupanciesBounded_modifyZone hs _ fun _ => Nat.min_le_left ..
  | censusZero => exact occupanciesBounded_censusZero hs
  | _ => exact huntouched nofun rfl

/-! ## Gate totals (R82) -/

/-- Every total of a gate is at most 65,535. -/
def TotalsBounded (s : State) : Prop := ∀ g : Fin 32, s.gates[g].inbound ≤ 65535 ∧ s.gates[g].outbound ≤ 65535

theorem totalsBounded_of_changes {l : List Part} {s t : State} (h : Changes l s t) (hg : l.contains .gates = false)
    (hs : TotalsBounded s) : TotalsBounded t := by
  have hgates : t.gates = s.gates := h.same .gates hg
  simpa only [TotalsBounded, hgates] using hs

theorem totalsBounded_modifyGate {s : State} (hs : TotalsBounded s) (g : Fin 32) {f : Gate → Gate}
    (hf : (f s.gates[g]).inbound ≤ 65535 ∧ (f s.gates[g]).outbound ≤ 65535) : TotalsBounded (s.modifyGate g f) := by
  intro k
  rw [State.modifyGate_gates, modifyAt_get]
  split
  · next h => subst h; exact hf
  · exact hs k

theorem Gate.take_totals (x y : Gate) :
    (Gate.take x y).1.inbound = y.inbound ∧ (Gate.take x y).1.outbound = y.outbound := by
  unfold Gate.take
  repeat' split
  all_goals exact ⟨rfl, rfl⟩

theorem totalsBounded_cross {s : State} (hs : TotalsBounded s) (g : Fin 32) (c : Crossing) :
    TotalsBounded (s.cross g c) := by
  have hsides : ∀ x y f k, TotalsBounded ((s.modifySide x f).modifySide y k) := fun x y f k =>
    totalsBounded_of_changes ((Changes.modifySide ..).trans (Changes.modifySide ..)) rfl hs
  cases c with
  | inbound => exact totalsBounded_modifyGate (hsides _ _ _ _) g ⟨satInc_le .., (hsides _ _ _ _ g).2⟩
  | outbound => exact totalsBounded_modifyGate (hsides _ _ _ _) g ⟨(hsides _ _ _ _ g).1, satInc_le ..⟩

theorem totalsBounded_gateTakes {s : State} (hs : TotalsBounded s) (g : Fin 32) {f : Gate → Gate}
    (hf : (f s.gates[g]).inbound = s.gates[g].inbound ∧ (f s.gates[g]).outbound = s.gates[g].outbound) :
    TotalsBounded (s.gateTakes g f) := by
  refine foldl_keeps (p := TotalsBounded) (fun _ c h => totalsBounded_cross h g c) _ (totalsBounded_modifyGate hs g ?_)
  obtain ⟨hin, hout⟩ := Gate.take_totals s.gates[g] (f s.gates[g])
  obtain ⟨hfin, hfout⟩ := hf
  rw [hin, hout, hfin, hfout]
  exact hs g

theorem totalsBounded_move (c : Instr) {s : State} (hs : TotalsBounded s) : TotalsBounded (moveOf c s) := by
  have huntouched : ∀ {c : Instr}, c ≠ .hardReset → (touches c).contains .gates = false →
      TotalsBounded (moveOf c s) := fun hc hg => totalsBounded_of_changes (moveOf_changes _ s hc) hg hs
  cases c with
  | hardReset =>
    intro g
    have : (moveOf .hardReset s).gates[g] = s.gates[g].resetKeepingLines := mapFin_get ..
    rw [this]
    exact ⟨Nat.zero_le _, Nat.zero_le _⟩
  | beamEvent g beam =>
    simp only [moveOf]
    split
    · exact totalsBounded_gateTakes hs g (by cases beam <;> exact ⟨rfl, rfl⟩)
    · exact hs
  | pairEvent g =>
    simp only [moveOf]
    split
    · exact totalsBounded_gateTakes hs g ⟨rfl, rfl⟩
    · exact hs
  | stuckTimerExpiry g beam =>
    simp only [moveOf]
    split
    · exact totalsBounded_of_changes (((Changes.modifySide ..).mono rfl).trans
        (((Changes.modifySide ..).mono rfl).trans ((Changes.post ..).mono (m := [.zones, .notices]) rfl))) rfl
        (totalsBounded_modifyGate hs g (hs g))
    · exact hs
  | recoveryTimerExpiry g =>
    simp only [moveOf]
    split
    · exact totalsBounded_of_changes (Changes.post ..) rfl (totalsBounded_modifyGate hs g (hs g))
    · exact hs
  | gate _ i a =>
    refine checked_preserves hs fun _ => ?_
    split
    · exact hs
    · split
      · exact hs
      · refine totalsBounded_modifyGate hs _ ?_
        unfold Gate.restart
        dsimp only
        split <;> exact hs _
  | gateRead _ i c =>
    refine checked_preserves hs fun _ => ?_
    split
    · dsimp only
      split
      · intro g
        have : (s.withGates (mapFin (fun _ r => r.clearTotals) s.gates)).gates[g] = s.gates[g].clearTotals :=
          mapFin_get ..
        rw [this]
        exact ⟨Nat.zero_le _, Nat.zero_le _⟩
      · exact hs
    · split
      · exact hs
      · dsimp only
        split
        · exact totalsBounded_modifyGate hs _ ⟨Nat.zero_le _, Nat.zero_le _⟩
        · exact hs
  | beamLineChange g beam high => exact totalsBounded_modifyGate hs g (by cases beam <;> exact hs g)
  | _ => exact huntouched nofun rfl

/-! ## Demand counts (R14) -/

/-- Every demand count is at most 65,535. -/
def DemandsBounded (s : State) : Prop := ∀ q ∈ s.map.listings, q.2.demand ≤ 65535

theorem demandsBounded_of_changes {l : List Part} {s t : State} (h : Changes l s t)
    (hl : l.contains .listings = false) (hs : DemandsBounded s) : DemandsBounded t := by
  have hlist : t.map.listings = s.map.listings := h.same .listings hl
  simpa only [DemandsBounded, hlist] using hs

theorem demandsBounded_put {s : State} (hs : DemandsBounded s) (k : Nat) {l : Listing} (hl : l.demand ≤ 65535)
    (x : List (Text × Nat)) :
    DemandsBounded (s.withMap { s.map with listings := s.map.listings.put k l, nameIndex := x }) := by
  intro q hq
  rcases Table.mem_put hq with rfl | hq
  · exact hl
  · exact hs q hq

theorem demandsBounded_map {s : State} (hs : DemandsBounded s) {f : Listing → Listing}
    (hf : ∀ l, l.demand ≤ 65535 → (f l).demand ≤ 65535) :
    DemandsBounded (s.withMap { s.map with listings := s.map.listings.map fun q => (q.1, f q.2) }) := by
  intro q hq
  obtain ⟨r, hr, rfl⟩ := List.mem_map.mp hq
  exact hf _ (hs r hr)

theorem demandsBounded_get {s : State} (hs : DemandsBounded s) {k : Nat} {l : Listing}
    (h : s.map.listings.get k = some l) : l.demand ≤ 65535 := hs _ (Table.mem_of_get h)

theorem demandOf_le {s : State} (hs : DemandsBounded s) (k : Nat) : s.demandOf k ≤ 65535 := by
  unfold State.demandOf
  cases h : s.map.listings.get k with
  | none => exact Nat.zero_le _
  | some l => exact demandsBounded_get hs h

theorem listingRecord_demand {clock : Option DayTime} {d : Nat} {a : ListingArgs} {l : Listing}
    (h : listingRecord? clock d a = some l) : l.demand = d := by
  unfold listingRecord? at h
  split at h
  · cases h; rfl
  · cases h

theorem demandsBounded_minuteBoundary {s : State} (hs : DemandsBounded s) (now : DayTime) (b : Bool) :
    DemandsBounded (s.minuteBoundary now b) := by
  have h : DemandsBounded ((s.withClock { s.clock with clock := some now }).withMap { s.map with
      listings := s.map.listings.map fun q => (q.1, q.2.evaluate now.weekday now.minute) }) :=
    demandsBounded_map hs fun _ h => h
  unfold State.minuteBoundary
  dsimp only
  split
  · exact h
  · exact demandsBounded_of_changes (Changes.post ..) rfl (demandsBounded_of_changes (Changes.bump _) rfl h)

theorem demandsBounded_advanceClock {s : State} (hs : DemandsBounded s) : DemandsBounded s.advanceClock := by
  unfold State.advanceClock
  split
  · exact hs
  · split
    · exact demandsBounded_minuteBoundary hs _ _
    · exact hs

theorem demandsBounded_second {s : State} (hs : DemandsBounded s) : DemandsBounded s.second := by
  unfold State.second
  exact demandsBounded_of_changes (Changes.countIdle _) rfl (demandsBounded_of_changes (Changes.countTimers _) rfl
    (demandsBounded_advanceClock (demandsBounded_of_changes (Changes.foldl Changes.takeExpiry _ s) rfl hs)))

theorem demandsBounded_countDemand {s : State} (hs : DemandsBounded s) (d : Dest) : DemandsBounded (s.countDemand d) := by
  unfold State.countDemand
  split
  · split
    · exact hs
    · exact demandsBounded_put hs _ (satInc_le ..) _
  all_goals exact hs

theorem demandsBounded_route {s : State} (hs : DemandsBounded s) (a : RouteArgs) :
    DemandsBounded (routeEffect a s).1 := by
  refine checked_preserves hs fun _ => ?_
  split
  · next o d _ _ =>
    have h := demandsBounded_countDemand (demandsBounded_of_changes (Changes.supersede s o) rfl hs) d
    exact demandsBounded_of_changes (Changes.settle _) rfl (demandsBounded_of_changes (Changes.handId ..) rfl
      (demandsBounded_of_changes (Changes.of_routeKeeps (.accept ..)) rfl h))
  · exact hs

theorem demandsBounded_move (c : Instr) {s : State} (hs : DemandsBounded s) : DemandsBounded (moveOf c s) := by
  have huntouched : ∀ {c : Instr}, c ≠ .hardReset → (touches c).contains .listings = false →
      DemandsBounded (moveOf c s) := fun hc hl => demandsBounded_of_changes (moveOf_changes _ s hc) hl hs
  cases c with
  | hardReset => exact nofun
  | mapClear => exact checked_preserves hs fun _ => nofun
  | listingPut _ i a =>
    refine checked_preserves hs fun _ => ?_
    split
    · exact hs
    · next h => exact demandsBounded_put hs i ((listingRecord_demand h).le.trans (demandOf_le hs i)) _
  | listingRemove _ i =>
    refine checked_preserves hs fun _ => ?_
    exact fun q hq => hs q (List.mem_filter.mp hq).1
  | override _ i w m =>
    refine checked_preserves hs fun _ => ?_
    split
    · next l o h _ =>
      have hl : ∀ o : Override, ({ l with override := o } : Listing).demand ≤ 65535 := fun _ =>
        (demandsBounded_get hs h : l.demand ≤ 65535)
      exact demandsBounded_of_changes (Changes.bump _) rfl (demandsBounded_put hs i (hl _) _)
    · exact hs
  | demand _ l c =>
    refine checked_preserves hs fun _ => ?_
    split
    · unfold demandAllEffect
      dsimp only
      split
      · exact demandsBounded_map hs fun _ _ => Nat.zero_le _
      · exact hs
    · unfold demandOneEffect
      split
      · exact hs
      · dsimp only
        split
        · exact demandsBounded_put hs _ (Nat.zero_le _) _
        · exact hs
  | route _ a => exact demandsBounded_route hs a
  | clock _ d m x =>
    refine checked_preserves hs fun _ => ?_
    split
    · exact hs
    · exact demandsBounded_minuteBoundary hs _ _
  | timebaseSecond => exact demandsBounded_second hs
  | _ => exact huntouched nofun rfl

/-! ## Failures (R66, R111) -/

/-- The FAILURES counter stays at most 65,535. -/
structure FailuresKeep (s t : State) : Prop where
  bound : s.watches.failures ≤ 65535 → t.watches.failures ≤ 65535

namespace FailuresKeep

theorem of_eq {s t : State} (h : t.watches.failures = s.watches.failures) : FailuresKeep s t := ⟨fun hs => h.le.trans hs⟩

theorem of_changes {l : List Part} {s t : State} (h : Changes l s t) (hl : l.contains .failures = false) :
    FailuresKeep s t := of_eq (h.same .failures hl)

theorem refl (s : State) : FailuresKeep s s := ⟨id⟩

theorem trans {s t u : State} (h : FailuresKeep s t) (k : FailuresKeep t u) : FailuresKeep s u := ⟨k.bound ∘ h.bound⟩

/-- What comes before leaves the counter. -/
theorem after {s t u : State} (k : FailuresKeep t u) (h : t.watches.failures = s.watches.failures) : FailuresKeep s u :=
  (of_eq h).trans k

theorem countFailure (s : State) (o : RouteOutcome) : FailuresKeep s (s.countFailure o) := by
  unfold State.countFailure
  split
  · exact ⟨fun _ => satInc_le ..⟩
  · exact refl s

theorem handOutcome (s : State) (r : RouteResult) : FailuresKeep s (s.handOutcome r) := by
  unfold State.handOutcome
  split
  · exact refl s
  · split
    · exact of_eq rfl
    · dsimp only
      split <;> exact of_eq rfl

theorem postFromUnit (s : State) (u : UnitName) (r : RouteResult) : FailuresKeep s (s.postFromUnit u r) :=
  after (t := s.post (.routeResult r)) ((countFailure _ r.outcome).trans ((handOutcome _ r).trans (of_eq rfl))) rfl

theorem postFromQueue (s : State) (o : RouteOutcome) (e : Entry) : FailuresKeep s (s.postFromQueue o e) :=
  after (t := s.post (.routeResult (emptyResult s e o []))) (handOutcome ..) rfl

theorem endQueued (s : State) (test : Entry → Bool) (o : RouteOutcome) : FailuresKeep s (s.endQueued test o) := by
  refine ⟨fun hs => ?_⟩
  unfold State.endQueued
  exact foldl_keeps (p := fun t : State => t.watches.failures ≤ 65535) (fun t e => (postFromQueue t o e).bound) _ hs

theorem abortUnit (s : State) (u : UnitName) (test : Entry → Bool) (o : RouteOutcome) :
    FailuresKeep s (s.abortUnit u test o) := by
  unfold State.abortUnit
  split
  · exact refl s
  · split
    · exact postFromUnit ..
    · exact refl s

theorem endEntries (s : State) (test : Entry → Bool) (o : RouteOutcome) : FailuresKeep s (s.endEntries test o) :=
  ((endQueued ..).trans (abortUnit ..)).trans (abortUnit ..)

theorem startAttempt (s : State) (u : UnitName) (e : Entry) (n : Nat) : FailuresKeep s (s.startAttempt u e n) := by
  unfold State.startAttempt
  dsimp only
  split
  · exact after (postFromUnit (s.withUnits _) ..) rfl
  · exact of_eq rfl

theorem settleStep {s t : State} (h : s.settleStep = some t) : FailuresKeep s t := by
  unfold State.settleStep at h
  split at h
  · next hq _ =>
    cases h
    rw [grant_queue hq]
    exact after (startAttempt (s.withQueue _) ..) rfl
  · split at h
    · cases h
      exact of_eq rfl
    · cases h

theorem settleLoop (n : Nat) (s : State) : FailuresKeep s (State.settleLoop n s) := by
  induction n generalizing s with
  | zero => exact refl s
  | succ n ih =>
    unfold State.settleLoop
    split
    · exact refl s
    · next h => exact (settleStep h).trans (ih _)

theorem settle (s : State) : FailuresKeep s s.settle := settleLoop ..

theorem complete (s : State) (u : UnitName) : FailuresKeep s (s.complete u) := by
  unfold State.complete State.completeAttempt
  split
  · exact refl s
  · refine FailuresKeep.trans ?_ (settle _)
    split
    · split
      · exact startAttempt ..
      · exact postFromUnit ..
    · exact postFromUnit ..

theorem endScreenEntry (s : State) (n : Fin 48) (o : RouteOutcome) : FailuresKeep s (s.endScreenEntry n o) := by
  unfold State.endScreenEntry
  split
  · exact (endEntries ..).trans (settle _)
  · exact refl s

theorem bump (s : State) : FailuresKeep s s.bump := by
  have hcore : FailuresKeep s s.bumpCore := of_changes (Changes.bumpCore s) rfl
  unfold State.bump
  split
  · exact hcore.trans (settle _)
  · exact hcore

theorem act {s t : State} (h : Act s t) : FailuresKeep s t := by
  cases h with
  | aside h => exact of_eq h.failures
  | post => exact of_eq rfl
  | bump => exact bump s
  | countIdle => exact of_changes (Changes.countIdle s) rfl
  | clearFailures => exact ⟨fun _ => Nat.zero_le _⟩

theorem withdraw (s : State) (n : Fin 48) (ses : Session) : FailuresKeep s (s.withdraw n ses) := by
  unfold State.withdraw
  split
  · exact after (endScreenEntry (s.modifySession n _) ..) rfl
  · exact refl s

theorem takeRequest (s : State) (n : Fin 48) (c : Screen) (b : Bool) (x : ReplyExtras) (f : Session → Session) :
    FailuresKeep s (takeRequest s n c b x f).1 := by
  have h : FailuresKeep s (((if b then s.withdraw n c.session else s)).modifySession n
      fun d ses => (f ses).restartIdle d) := by
    split
    · exact (withdraw s n _).trans (of_eq rfl)
    · exact of_eq rfl
  unfold Machine.takeRequest
  dsimp only
  split <;> exact h

theorem sessionRequest {n : Nat} {x y z : Bool} {s : State} {f : Fin 48 → Screen → State × Answer}
    (h : ∀ k c, FailuresKeep s (f k c).1) : FailuresKeep s (sessionRequest n x y z s f).1 := by
  unfold Machine.sessionRequest
  split
  · exact refl s
  · split
    · exact refl s
    · exact checked_preserves (p := FailuresKeep s) (refl s) fun _ => h ..

theorem entryEvent (s : State) (c : EvacCause) : FailuresKeep s (s.entryEvent c) := by
  have hended : FailuresKeep s ((s.evacTo .active).endEntries (fun e => e.cls == .normal) .evacCancelled) :=
    after (endEntries (s.evacTo .active) ..) rfl
  exact (((hended.trans (of_changes (Changes.mapSessions ..) rfl)).trans (of_changes (Changes.holdTimers _) rfl)).trans
    (of_changes (Changes.bumpCore _) rfl)).trans ((((of_changes (Changes.dueAll _) rfl).trans
      (of_changes (Changes.postEvac _ c) rfl)).trans (of_changes (Changes.setAck _ true) rfl)).trans (settle _))

theorem exitEvent (s : State) : FailuresKeep s s.exitEvent := by
  have hended : FailuresKeep s ((s.evacTo .inactive).endEntries (fun e => e.cls == .evacuation) .evacEnded) :=
    after (endEntries (s.evacTo .inactive) ..) rfl
  exact (((hended.trans (of_changes (Changes.clearDue _) rfl)).trans (of_changes (Changes.mapSessions ..) rfl)).trans
    (of_changes (Changes.bumpCore _) rfl)).trans (((of_changes (Changes.postEvac _ .ended) rfl).trans
      (of_changes (Changes.setAck _ false) rfl)).trans (settle _))

theorem raiseEvac (s : State) (c : EvacCause) : FailuresKeep s (s.raiseEvac c) := by
  unfold State.raiseEvac
  split
  · split
    · exact entryEvent s c
    · exact of_eq rfl
  all_goals exact refl s

theorem leaveService (s : State) : FailuresKeep s s.leaveService := by
  unfold State.leaveService
  refine (endEntries s (fun _ => true) .serviceStopped).trans ?_
  generalize s.endEntries (fun _ => true) .serviceStopped = u
  exact (((of_changes (Changes.withMode ..) rfl).trans (of_changes (Changes.mapSessions ..) rfl)).trans
    (of_changes (Changes.withTimers ..) rfl)).trans (of_changes (Changes.stopEvac_parts _) rfl)

theorem move (c : Instr) (s : State) : FailuresKeep s (moveOf c s) := by
  have hacts : ∀ {c : Instr}, movesRoutes c = false → FailuresKeep s (moveOf c s) := fun h =>
    (moveOf_acts _ s h).keeps (p := FailuresKeep s) (fun a h => h.trans (act a)) (refl s)
  have huntouched : ∀ {c : Instr}, c ≠ .hardReset → (touches c).contains .failures = false →
      FailuresKeep s (moveOf c s) := fun hc hl => of_changes (moveOf_changes _ s hc) hl
  cases c with
  | hardReset => exact ⟨fun _ => Nat.zero_le _⟩
  | fetch => exact after (settle s.fetched) rfl
  | start =>
    refine checked_preserves (p := FailuresKeep s) (refl s) fun _ => ?_
    have henter : FailuresKeep s s.enterService := of_changes (Changes.enterService s) rfl
    split
    · exact refl s
    · dsimp only
      split
      · exact henter.trans (entryEvent ..)
      · exact henter
  | stop => exact checked_preserves (p := FailuresKeep s) (refl s) fun _ => leaveService s
  | mapClear | screenDeclare | screenUndeclare => exact huntouched nofun rfl
  | route _ a =>
    refine checked_preserves (p := FailuresKeep s) (refl s) fun _ => ?_
    split
    · next o d _ _ =>
      have hsupersede : FailuresKeep s (s.supersede o) := by
        unfold State.supersede
        split
        · exact endScreenEntry ..
        · exact refl s
      exact ((((hsupersede.trans (of_changes (Changes.countDemand _ d) rfl))).trans
        (of_eq (t := ((s.supersede o).countDemand d).accept o d _ .normal) rfl)).trans
          (of_changes (Changes.handId ..) rfl)).trans (settle _)
    · exact refl s
  | routeCancel _ id =>
    refine checked_preserves (p := FailuresKeep s) (refl s) fun _ => ?_
    split
    · exact refl s
    · split
      · exact refl s
      · exact (endEntries ..).trans (settle _)
  | completionEvent u => exact complete s u
  | nav _ n a =>
    refine sessionRequest fun k c => ?_
    split
    · exact refl s
    · exact takeRequest ..
  | back | backRestore | home | prefs | tap => exact sessionRequest fun _ _ => takeRequest ..
  | idleTimerExpiry n =>
    simp only [moveOf, State.idleExpires]
    split
    · exact refl s
    · split
      · exact (withdraw s n _).trans (of_eq rfl)
      · exact refl s
  | evacInRise =>
    simp only [moveOf]
    split
    · exact after (raiseEvac (s.withEvac _) .line) rfl
    · exact refl s
  | evac => exact raiseEvac s .host
  | evacEnd =>
    refine checked_preserves (p := FailuresKeep s) (refl s) fun _ => ?_
    dsimp only
    split
    · exact exitEvent s
    · exact of_eq rfl
    · exact refl s
  | _ => exact hacts rfl

end FailuresKeep

/-! ## The map generation (R20) -/

/-- The map generation is a number of 32 bits. -/
def GenerationBounded (s : State) : Prop := s.map.generation < 4294967296

theorem generationBounded_of_changes {l : List Part} {s t : State} (h : Changes l s t)
    (hl : l.contains .generation = false) (hs : GenerationBounded s) : GenerationBounded t := by
  have hgen : t.map.generation = s.map.generation := h.same .generation hl
  rwa [GenerationBounded, hgen]

theorem generationBounded_bumpCore {s : State} (hs : GenerationBounded s) : GenerationBounded s.bumpCore := by
  have h : GenerationBounded (s.withMap { s.map with generation := nextGeneration s.map.generation }) :=
    wrapInc_lt (by decide) _
  unfold State.bumpCore
  split
  · dsimp only
    split
    · exact generationBounded_of_changes (Changes.withDue ..) rfl h
    · exact h
  · exact hs

theorem generationBounded_bump {s : State} (hs : GenerationBounded s) : GenerationBounded s.bump := by
  unfold State.bump
  split
  · exact generationBounded_of_changes (Changes.settle _) rfl (generationBounded_bumpCore hs)
  · exact generationBounded_bumpCore hs

theorem generationBounded_act {s t : State} (h : Act s t) (hs : GenerationBounded s) : GenerationBounded t := by
  cases h with
  | aside h => rwa [GenerationBounded, h.generation]
  | bump => exact generationBounded_bump hs
  | countIdle => exact generationBounded_of_changes (Changes.countIdle s) rfl hs
  | post | clearFailures => exact hs

theorem generationBounded_entryEvent {s : State} (hs : GenerationBounded s) (c : EvacCause) :
    GenerationBounded (s.entryEvent c) := by
  have hended : GenerationBounded ((s.evacTo .active).endEntries (fun e => e.cls == .normal) .evacCancelled) :=
    generationBounded_of_changes (Changes.endEntries ..) rfl hs
  have hbumped := generationBounded_bumpCore (generationBounded_of_changes (Changes.holdTimers _) rfl
    (generationBounded_of_changes (Changes.mapSessions _ fun _ ses => ses.toAlert) rfl hended))
  exact generationBounded_of_changes (Changes.settle _) rfl (generationBounded_of_changes (Changes.setAck _ true) rfl
    (generationBounded_of_changes (Changes.postEvac _ c) rfl
      (generationBounded_of_changes (Changes.dueAll _) rfl hbumped)))

theorem generationBounded_exitEvent {s : State} (hs : GenerationBounded s) : GenerationBounded s.exitEvent := by
  have hended : GenerationBounded ((s.evacTo .inactive).endEntries (fun e => e.cls == .evacuation) .evacEnded) :=
    generationBounded_of_changes (Changes.endEntries ..) rfl hs
  have hbumped := generationBounded_bumpCore (generationBounded_of_changes (Changes.mapSessions _ Session.leaveAlert) rfl
    (generationBounded_of_changes (Changes.clearDue _) rfl hended))
  exact generationBounded_of_changes (Changes.settle _) rfl (generationBounded_of_changes (Changes.setAck _ false) rfl
    (generationBounded_of_changes (Changes.postEvac _ .ended) rfl hbumped))

theorem generationBounded_raiseEvac {s : State} (hs : GenerationBounded s) (c : EvacCause) :
    GenerationBounded (s.raiseEvac c) := by
  unfold State.raiseEvac
  split
  · split
    · exact generationBounded_entryEvent hs c
    · exact hs
  all_goals exact hs

theorem generationBounded_leaveService {s : State} (hs : GenerationBounded s) : GenerationBounded s.leaveService := by
  unfold State.leaveService
  have hended := generationBounded_of_changes (Changes.endEntries s (fun _ => true) .serviceStopped) rfl hs
  generalize s.endEntries (fun _ => true) .serviceStopped = u at hended
  exact generationBounded_of_changes (Changes.stopEvac_parts _) rfl hended

theorem generationBounded_move (c : Instr) {s : State} (hs : GenerationBounded s) : GenerationBounded (moveOf c s) := by
  have hacts : ∀ {c : Instr}, movesRoutes c = false → GenerationBounded (moveOf c s) := fun h =>
    (moveOf_acts _ s h).keeps (p := GenerationBounded) generationBounded_act hs
  have huntouched : ∀ {c : Instr}, c ≠ .hardReset → (touches c).contains .generation = false →
      GenerationBounded (moveOf c s) := fun hc hl => generationBounded_of_changes (moveOf_changes _ s hc) hl hs
  cases c with
  | hardReset => exact (by decide : 0 < 4294967296)
  | start =>
    refine checked_preserves hs fun _ => ?_
    have henter : GenerationBounded s.enterService := (by decide : 0 < 4294967296)
    split
    · exact hs
    · dsimp only
      split
      · exact generationBounded_entryEvent henter _
      · exact henter
  | stop => exact checked_preserves hs fun _ => generationBounded_leaveService hs
  | fetch | mapClear | screenDeclare | screenUndeclare | route | routeCancel | completionEvent | nav | back | backRestore
  | home | prefs | tap | idleTimerExpiry => exact huntouched nofun rfl
  | evacInRise =>
    simp only [moveOf]
    split
    · exact generationBounded_raiseEvac (generationBounded_of_changes (Changes.evacLevel ..) rfl hs) .line
    · exact hs
  | evac => exact generationBounded_raiseEvac hs .host
  | evacEnd =>
    refine checked_preserves hs fun _ => ?_
    dsimp only
    split
    · exact generationBounded_exitEvent hs
    · exact hs
    · exact hs
  | _ => exact hacts rfl

/-! ## Frame errors and census ticks (R94, R163) -/

theorem Port.arrive_frames {p : Port} (h : p.frames ≤ 65535) (l : Text) : (p.arrive l).frames ≤ 65535 := by
  unfold Port.arrive Port.refill
  split
  · split <;> exact h
  · split
    · exact satInc_le ..
    · exact h

theorem Port.endLine_frames {p : Port} (h : p.frames ≤ 65535) : p.endLine.frames ≤ 65535 := by
  unfold Port.endLine Port.judge
  split
  · exact h
  · split
    · exact h
    · split
      · exact Port.arrive_frames (p := { p with rx := [] }) h _
      · exact satInc_le ..

theorem frames_move (c : Instr) {s : State} (hs : s.port.frames ≤ 65535) : (moveOf c s).port.frames ≤ 65535 := by
  have huntouched : ∀ {c : Instr}, c ≠ .hardReset → (touches c).contains .frames = false →
      (moveOf c s).port.frames ≤ 65535 := fun hc hf =>
    (show (moveOf _ s).port.frames = s.port.frames from (moveOf_changes _ s hc).same .frames hf).le.trans hs
  cases c with
  | hardReset => exact Nat.zero_le _
  | lineComplete => exact Port.endLine_frames hs
  | assemblyTimerExpiry =>
    simp only [moveOf]
    split
    · exact satInc_le ..
    · exact hs
  | unknownVerb l =>
    have htaken : (s.taken (.unknownVerb l)).port.frames = s.port.frames :=
      (Changes.taken s (.unknownVerb l)).same .frames rfl
    simp only [moveOf, rejectLine]
    split
    · exact satInc_le ..
    all_goals exact htaken.le.trans hs
  | characterReceived =>
    simp only [moveOf]
    split
    · exact Port.endLine_frames hs
    · simp only [State.withPort_port, Port.assemble]
      split <;> exact hs
  | _ => exact huntouched nofun rfl

theorem tick_censusTick (s : State) : s.censusTick.census.tick < 65536 := by
  obtain ⟨htick, _⟩ := censusTick_ring s
  rw [htick]
  exact Nat.mod_lt _ (by decide)

theorem tick_move (c : Instr) {s : State} (hs : s.census.tick < 65536) : (moveOf c s).census.tick < 65536 := by
  have huntouched : ∀ {c : Instr}, c ≠ .hardReset → (touches c).contains .ring = false →
      (moveOf c s).census.tick < 65536 := fun hc hf => by
    have h := (moveOf_changes _ s hc).same .ring hf
    simp only [Part.same, Prod.mk.injEq] at h
    exact h.1.symm ▸ hs
  cases c with
  | hardReset => exact (by decide : 0 < 65536)
  | censusTick =>
    simp only [moveOf]
    exact tick_censusTick s
  | historyResume => exact hs
  | _ => exact huntouched nofun rfl

/-! ## The cost tables (R23, R25) -/

theorem costTablesKept_of_changes {l : List Part} {s t : State} (h : Changes l s t) (hp : l.contains .pace = false)
    (hm : l.contains .mult = false) (hs : CostTablesKept s) : CostTablesKept t := by
  have hpace : t.map.pace = s.map.pace := h.same .pace hp
  have hmult : t.map.mult = s.map.mult := h.same .mult hm
  simpa only [CostTablesKept, MapStore.paceOf, MapStore.multOf, hpace, hmult] using hs

theorem profileRow_inj {p q : Profile} : profileRow p = profileRow q ↔ p = q := by
  cases p <;> cases q <;> decide

theorem kindColumn_inj {j k : SegKind} : (kindColumn j).val = (kindColumn k).val ↔ j = k := by
  cases j <;> cases k <;> decide

theorem classColumn_inj {j k : ZoneClass} : (classColumn j).val = (classColumn k).val ↔ j = k := by
  cases j <;> cases k <;> decide

theorem MapStore.paceOf_setPace (m : MapStore) (p q : Profile) (k j : SegKind) (v : Nat) :
    (m.setPace p k v).paceOf q j = if q = p ∧ j = k then v else m.paceOf q j := by
  unfold MapStore.paceOf MapStore.setPace
  dsimp only
  by_cases hq : q = p
  · subst hq
    rw [modifyAt_get_self]
    refine (Vector.getElem_set ..).trans ?_
    simp only [kindColumn_inj, true_and, Eq.comm (a := k)]
    rfl
  · rw [modifyAt_get_ne _ _ fun h => hq (profileRow_inj.mp h).symm, if_neg fun h => hq h.1]

theorem MapStore.multOf_setMult (m : MapStore) (p q : Profile) (c d : ZoneClass) (v : Nat) :
    (m.setMult p c v).multOf q d = if q = p ∧ d = c then v else m.multOf q d := by
  unfold MapStore.multOf MapStore.setMult
  dsimp only
  by_cases hq : q = p
  · subst hq
    rw [modifyAt_get_self]
    refine (Vector.getElem_set ..).trans ?_
    simp only [classColumn_inj, true_and, Eq.comm (a := c)]
    rfl
  · rw [modifyAt_get_ne _ _ fun h => hq (profileRow_inj.mp h).symm, if_neg fun h => hq h.1]

theorem costTablesKept_setPace {s : State} (hs : CostTablesKept s) (p : Profile) (k : SegKind) {v : Nat}
    (hv : v ≤ 255) : CostTablesKept (s.withMap (s.map.setPace p k (paceStored p k v))) := by
  obtain ⟨hheld, hpace, hmult⟩ := hs
  have hstored : paceStored p k v ≤ 255 := by
    unfold paceStored
    split
    · exact Nat.zero_le _
    · exact hv
  refine ⟨?_, fun q j => ?_, hmult⟩ <;> rw [State.withMap_map, MapStore.paceOf_setPace]
  · split
    · next h => rw [← h.1, ← h.2]; rfl
    · exact hheld
  · split
    · exact hstored
    · exact hpace q j

theorem costTablesKept_setMult {s : State} (hs : CostTablesKept s) (p : Profile) (c : ZoneClass) {v : Nat}
    (hv : v ≤ 255) : CostTablesKept (s.withMap (s.map.setMult p c (multStored v))) := by
  obtain ⟨hheld, hpace, hmult⟩ := hs
  refine ⟨hheld, hpace, fun q d => ?_⟩
  rw [State.withMap_map, MapStore.multOf_setMult]
  split
  · unfold multStored
    omega
  · exact hmult q d

theorem costTablesKept_reset : CostTablesKept State.reset := by
  refine ⟨by decide, fun p k => ?_, fun p c => ?_⟩
  · cases p <;> cases k <;> decide
  · cases p <;> cases c <;> decide

theorem costTablesKept_move (c : Instr) {s : State} (hs : CostTablesKept s) : CostTablesKept (moveOf c s) := by
  have huntouched : ∀ {c : Instr}, c ≠ .hardReset → (touches c).contains .pace = false →
      (touches c).contains .mult = false → CostTablesKept (moveOf c s) := fun hc hp hm =>
    costTablesKept_of_changes (moveOf_changes _ s hc) hp hm hs
  cases c with
  | hardReset =>
    have h : (moveOf .hardReset s).map = State.reset.map := rfl
    unfold CostTablesKept
    rw [h]
    exact costTablesKept_reset
  | paceWrite _ p k v =>
    refine checked_preserves hs fun hpass => ?_
    have hv : decide (v ≤ 255) = true := hpass _ List.mem_cons_self
    split
    · exact hs
    · exact costTablesKept_of_changes (Changes.bumpIf ..) rfl rfl
        (costTablesKept_setPace hs p _ (of_decide_eq_true hv))
  | multWrite _ p c v =>
    refine checked_preserves hs fun hpass => ?_
    have hv : decide (v ≤ 255) = true := hpass _ List.mem_cons_self
    split
    · exact hs
    · exact costTablesKept_of_changes (Changes.bumpIf ..) rfl rfl
        (costTablesKept_setMult hs p _ (of_decide_eq_true hv))
  | _ => exact huntouched nofun rfl rfl

/-- Settles O8: each counter saturates, is clamped or wraps where it moves, and a write of the cost tables stores the
value held. -/
theorem everyStepKeepsValuesInRange : Obligations.EveryStepKeepsValuesInRange := by
  refine keptByEveryStep_of_move (fun _ _ h => h) (fun s c h => ?_) (fun _ _ _ h => h) fun c s h => ?_
  · have hframes : (s.taken c).port.frames = s.port.frames := (Changes.taken s c).same .frames rfl
    obtain ⟨⟨hocc, htotals, hdemand, hfailures, hf, htick, hgen⟩, hcost⟩ := h
    exact ⟨⟨hocc, htotals, hdemand, hfailures, hframes.le.trans hf, htick, hgen⟩, hcost⟩
  · obtain ⟨⟨hocc, htotals, hdemand, hfailures, hframes, htick, hgen⟩, hcost⟩ := h
    exact ⟨⟨occupanciesBounded_move c hocc, totalsBounded_move c htotals, demandsBounded_move c hdemand,
      (FailuresKeep.move c s).bound hfailures, frames_move c hframes, tick_move c htick, generationBounded_move c hgen⟩,
      costTablesKept_move c hcost⟩

end Sys2Proof.Machine

/-! # Proofs: the outcomes owed and their route ids -/

namespace Sys2Proof.Machine

open Sys2Proof.Safety

/-! ## The route ids of the notices waiting (R41) -/

theorem filterMap_resultId (l : List Notice) :
    l.filterMap Notice.resultId? = (l.filter Notice.isResult).filterMap Notice.resultId? := by
  induction l with
  | nil => rfl
  | cons n l ih => cases n <;> simp [List.filterMap_cons, Notice.isResult, noticeKindOf, Notice.resultId?, ih]

theorem resultCount_eq (l : List Notice) : resultCount l = (l.filterMap Notice.resultId?).length := by
  unfold resultCount
  induction l with
  | nil => rfl
  | cons n l ih => cases n <;> simp [List.filterMap_cons, Notice.isResult, noticeKindOf, Notice.resultId?, ih]

/-- The route ids of the ROUTE_RESULTs waiting. -/
def noticeIds (p : Port) : List Nat := p.notices.filterMap Notice.resultId?

theorem noticeIds_post (p : Port) (n : Notice) : noticeIds (p.post n) = noticeIds p ++ n.resultId?.toList := by
  unfold noticeIds
  rw [filterMap_resultId, Port.post_results, List.filterMap_append, ← filterMap_resultId]
  cases n <;> rfl

theorem outstandingIds_eq (s : State) : s.outstandingIds
    = s.queue.entries.map Entry.id ++ s.units.entries.map Entry.id ++ noticeIds s.port := rfl

theorem outcomesOwed_eq (s : State) : outcomesOwed s = s.outstandingIds.length := by
  simp only [outcomesOwed, outstandingIds_eq, noticeIds, resultCount_eq, Units.busy, List.length_append, List.length_map]

/-- While fewer than 32 outcomes are owed a notice that is no result is there to be shed (R167). -/
theorem notices_post {p : Port} (n : Notice) (hids : (noticeIds p).length < 32) (h : p.notices.length ≤ 32) :
    (p.post n).notices.length ≤ 32 := by
  rcases p.post_cases n with ⟨_, e⟩ | ⟨_, hlt, e⟩ | ⟨_, hfull, e⟩ <;> rw [e]
  · exact h
  · simp
    omega
  · have hshed : ∃ n ∈ p.notices, n.isResult = false := by
      by_contra hall
      simp only [not_exists, not_and, Bool.not_eq_false] at hall
      have : resultCount p.notices = p.notices.length := List.countP_eq_length.mpr hall
      rw [resultCount_eq] at this
      unfold noticeIds at hids
      omega
    have := shedOldest_length hshed
    simp
    omega

/-! ## What the posting of an outcome changes -/

section
variable (s : State) (o : RouteOutcome) (r : RouteResult) (u : UnitName) (e : Entry)

@[simp] theorem countFailure_queue : (s.countFailure o).queue = s.queue := by
  unfold State.countFailure; split <;> rfl
@[simp] theorem countFailure_units : (s.countFailure o).units = s.units := by
  unfold State.countFailure; split <;> rfl
@[simp] theorem countFailure_port : (s.countFailure o).port = s.port := by
  unfold State.countFailure; split <;> rfl
@[simp] theorem countFailure_screens : (s.countFailure o).screens = s.screens := by
  unfold State.countFailure; split <;> rfl
@[simp] theorem countFailure_evac : (s.countFailure o).evac = s.evac := by
  unfold State.countFailure; split <;> rfl
@[simp] theorem countFailure_map : (s.countFailure o).map = s.map := by
  unfold State.countFailure; split <;> rfl

@[simp] theorem handOutcome_queue : (s.handOutcome r).queue = s.queue := by
  unfold State.handOutcome; repeat' split
  all_goals rfl
@[simp] theorem handOutcome_units : (s.handOutcome r).units = s.units := by
  unfold State.handOutcome; repeat' split
  all_goals rfl
@[simp] theorem handOutcome_port : (s.handOutcome r).port = s.port := by
  unfold State.handOutcome; repeat' split
  all_goals rfl

@[simp] theorem postFromUnit_queue : (s.postFromUnit u r).queue = s.queue := by
  simp [State.postFromUnit]
@[simp] theorem postFromUnit_units : (s.postFromUnit u r).units = s.units.set u none := by
  simp [State.postFromUnit]
@[simp] theorem postFromUnit_port : (s.postFromUnit u r).port = s.port.post (.routeResult r) := by
  simp [State.postFromUnit]

@[simp] theorem postFromQueue_queue : (s.postFromQueue o e).queue = s.queue := by
  simp [State.postFromQueue]
@[simp] theorem postFromQueue_units : (s.postFromQueue o e).units = s.units := by
  simp [State.postFromQueue]
@[simp] theorem postFromQueue_port :
    (s.postFromQueue o e).port = s.port.post (.routeResult (emptyResult s e o [])) := by
  simp [State.postFromQueue]

end

/-! ## Units -/

/-- The entries of the units with an attempt put into an IDLE unit. -/
theorem Units.entries_set_some {u : Units} {k : UnitName} (h : u.get k = none) (a : Attempt) :
    ((u.set k (some a)).entries).Perm (a.entry :: u.entries) := by
  obtain ⟨x, y⟩ := u
  cases k
  · cases h
    exact List.Perm.refl _
  · cases h
    cases x
    · exact List.Perm.refl _
    · exact List.Perm.swap ..

/-- The entries of the units without the attempt of a BUSY unit. -/
theorem Units.entries_set_none {u : Units} {k : UnitName} {a : Attempt} (h : u.get k = some a) :
    (u.entries).Perm (a.entry :: (u.set k none).entries) := by
  obtain ⟨x, y⟩ := u
  cases k
  · cases h
    exact List.Perm.refl _
  · cases h
    cases x
    · exact List.Perm.refl _
    · exact List.Perm.swap ..

/-- The entries of the units with an attempt in place of one of the same entry. -/
theorem Units.entries_set_same {u : Units} {k : UnitName} {a b : Attempt} (h : u.get k = some a)
    (he : b.entry = a.entry) : (u.set k (some b)).entries = u.entries := by
  obtain ⟨x, y⟩ := u
  cases k <;> cases h <;> simp [Units.set, Units.entries, he]

@[simp] theorem Units.set_set (u : Units) (k : UnitName) (x y : Option Attempt) : (u.set k x).set k y = u.set k y := by
  cases k <;> rfl

@[simp] theorem Units.get_set (u : Units) (k : UnitName) (x : Option Attempt) : (u.set k x).get k = x := by
  cases k <;> rfl

theorem Units.set_get_none {u : Units} {k : UnitName} (h : u.get k = none) : u.set k none = u := by
  obtain ⟨x, y⟩ := u
  cases k <;> cases h <;> rfl

theorem freeUnit_get {s : State} {u : UnitName} (h : s.freeUnit = some u) : s.units.get u = none := by
  unfold State.freeUnit at h
  split at h
  · next ha => cases h; exact ha
  · next hb => cases h; exact hb
  · cases h

@[simp] theorem beginAttempt_entry (s : State) (e : Entry) (n : Nat) : (beginAttempt s e n).entry = e := rfl

@[simp] theorem emptyResult_id (s : State) (e : Entry) (o : RouteOutcome) (f : List RouteFlag) :
    (emptyResult s e o f).id = e.id := rfl

theorem settledResult_id (s : State) (a : Attempt) : (settledResult s a).id = a.entry.id := by
  unfold settledResult
  repeat' split
  all_goals rfl

theorem checkedResult_id (s : State) (a : Attempt) : (checkedResult s a).id = a.entry.id := by
  unfold checkedResult
  repeat' split
  all_goals rfl

/-! ## Moves that keep every outcome owed -/

/-- The outcomes owed are the same, carried by the same ids; the queue is no longer, and notices stay within their limit. -/
structure OutcomesKept (s t : State) : Prop where
  ids : t.outstandingIds.Perm s.outstandingIds
  outstanding : t.queue.outstanding = s.queue.outstanding
  nextId : t.queue.nextId = s.queue.nextId
  queued : t.queue.entries.length ≤ s.queue.entries.length
  notices : s.outstandingIds.length < 32 → s.port.notices.length ≤ 32 → t.port.notices.length ≤ 32

namespace OutcomesKept

theorem refl (s : State) : OutcomesKept s s := ⟨.refl _, rfl, rfl, le_rfl, fun _ h => h⟩

theorem trans {s t u : State} (h : OutcomesKept s t) (k : OutcomesKept t u) : OutcomesKept s u :=
  ⟨k.ids.trans h.ids, k.outstanding.trans h.outstanding, k.nextId.trans h.nextId, k.queued.trans h.queued,
   fun hids hn => k.notices (h.ids.length_eq ▸ hids) (h.notices hids hn)⟩

theorem of_eq {s t : State} (hq : t.queue = s.queue) (hu : t.units.entries = s.units.entries)
    (hn : t.port.notices = s.port.notices) : OutcomesKept s t := by
  have hids : t.outstandingIds = s.outstandingIds := by
    rw [outstandingIds_eq, outstandingIds_eq, hq, hu, noticeIds, noticeIds, hn]
  exact ⟨hids ▸ .refl _, by rw [hq], by rw [hq], by rw [hq], fun _ h => hn ▸ h⟩

theorem of_changes {l : List Part} {s t : State} (h : Changes l s t) (hq : l.contains .entries = false)
    (hu : l.contains .units = false) (hn : l.contains .notices = false) : OutcomesKept s t := by
  have hnotices := h.same .notices hn
  simp only [Part.same, Prod.mk.injEq] at hnotices
  exact of_eq (h.same .entries hq) (congrArg Units.entries (h.same .units hu)) hnotices.1

theorem post (s : State) {n : Notice} (hn : n.isResult = false) : OutcomesKept s (s.post n) := by
  have hid : n.resultId? = none := by cases n <;> first | rfl | cases hn
  have hids : (s.post n).outstandingIds = s.outstandingIds := by
    rw [outstandingIds_eq, outstandingIds_eq, State.post_port, noticeIds_post, hid]
    simp
  refine ⟨hids ▸ .refl _, rfl, rfl, le_rfl, fun hlt h => notices_post n ?_ h⟩
  rw [outstandingIds_eq] at hlt
  simp at hlt
  omega

theorem bumpCore (s : State) : OutcomesKept s s.bumpCore := by
  have hmark : ({ a := s.units.a.map Attempt.mark, b := s.units.b.map Attempt.mark } : Units).entries
      = s.units.entries := by
    simp only [Units.entries]
    cases s.units.a <;> cases s.units.b <;> rfl
  unfold State.bumpCore
  split
  · dsimp only
    split
    · exact of_eq rfl hmark rfl
    · exact of_eq rfl hmark rfl
  · exact refl s

/-- A unit that posts the outcome of its own entry. -/
theorem postFromUnit {s : State} {u : UnitName} {a : Attempt} {r : RouteResult} (ha : s.units.get u = some a)
    (hr : r.id = a.entry.id) : OutcomesKept s (s.postFromUnit u r) := by
  have hperm := Units.entries_set_none ha
  refine ⟨?_, by simp, by simp, by simp, fun hlt h => ?_⟩
  · rw [outstandingIds_eq, outstandingIds_eq, postFromUnit_queue, postFromUnit_units, postFromUnit_port, noticeIds_post,
      show (Notice.routeResult r).resultId?.toList = [a.entry.id] from congrArg (fun i => [i]) hr,
      List.append_assoc, List.append_assoc]
    refine List.Perm.append_left _ ?_
    calc (s.units.set u none).entries.map Entry.id ++ (noticeIds s.port ++ [a.entry.id])
        = ((s.units.set u none).entries.map Entry.id ++ noticeIds s.port) ++ [a.entry.id] :=
          (List.append_assoc ..).symm
      _ |>.Perm (a.entry.id :: ((s.units.set u none).entries.map Entry.id ++ noticeIds s.port)) :=
          List.perm_append_singleton ..
      _ |>.Perm (s.units.entries.map Entry.id ++ noticeIds s.port) :=
          ((hperm.map Entry.id).symm.append_right _)
  · rw [postFromUnit_port]
    refine notices_post _ ?_ h
    rw [outstandingIds_eq] at hlt
    simp at hlt
    omega

/-- Entries taken out of the queue, in hand to be posted, post their outcomes one after another (R46). -/
theorem foldl_postFromQueue (o : RouteOutcome) (l : List Entry) (s : State) :
    (l.foldl (fun s e => s.postFromQueue o e) s).queue = s.queue
    ∧ (l.foldl (fun s e => s.postFromQueue o e) s).units = s.units
    ∧ noticeIds (l.foldl (fun s e => s.postFromQueue o e) s).port = noticeIds s.port ++ l.map Entry.id
    ∧ ((noticeIds s.port).length + l.length ≤ 32 → s.port.notices.length ≤ 32 →
        (l.foldl (fun s e => s.postFromQueue o e) s).port.notices.length ≤ 32) := by
  induction l generalizing s with
  | nil => exact ⟨rfl, rfl, by simp, fun _ h => h⟩
  | cons e l ih =>
    obtain ⟨hqueue, hunits, hids, hnotices⟩ := ih (s.postFromQueue o e)
    rw [postFromQueue_port, noticeIds_post] at hids hnotices
    refine ⟨hqueue.trans (postFromQueue_queue ..), hunits.trans (postFromQueue_units ..), ?_, fun hlt h => ?_⟩
    · refine hids.trans ?_
      simp [Notice.resultId?]
    · refine hnotices ?_ (notices_post _ ?_ h)
      · simp [Notice.resultId?] at hlt ⊢
        omega
      · simp at hlt
        omega

theorem endQueued (s : State) (test : Entry → Bool) (o : RouteOutcome) : OutcomesKept s (s.endQueued test o) := by
  obtain ⟨hqueue, hunits, hids, hnotices⟩ := foldl_postFromQueue o (s.queue.entries.filter test)
    (s.withQueue { s.queue with entries := s.queue.entries.filter fun e => !test e })
  have hsplit : (s.queue.entries.filter (fun e => !test e) ++ s.queue.entries.filter test).Perm s.queue.entries :=
    (List.perm_append_comm).trans (List.filter_append_perm test s.queue.entries)
  unfold State.endQueued
  refine ⟨?_, by rw [hqueue]; rfl, by rw [hqueue]; rfl, by rw [hqueue]; exact List.length_filter_le .., fun hlt h => hnotices ?_ h⟩
  · rw [outstandingIds_eq, outstandingIds_eq, hqueue, hunits, hids]
    simp only [State.withQueue_queue, State.withQueue_units, State.withQueue_port]
    have h1 := (hsplit.map Entry.id).append_right (s.units.entries.map Entry.id ++ noticeIds s.port)
    rw [List.map_append] at h1
    refine List.Perm.trans ?_ (h1.trans (by rw [List.append_assoc]))
    generalize (s.queue.entries.filter fun e => !test e).map Entry.id = a
    generalize (s.queue.entries.filter test).map Entry.id = b
    generalize s.units.entries.map Entry.id = c
    generalize noticeIds s.port = d
    rw [List.append_assoc, List.append_assoc]
    refine List.Perm.append_left a ?_
    rw [← List.append_assoc]
    exact List.perm_append_comm
  · have hlen := hsplit.length_eq
    rw [outstandingIds_eq] at hlt
    simp only [List.length_append, List.length_map] at hlt hlen
    simp only [State.withQueue_port]
    omega

theorem abortUnit (s : State) (u : UnitName) (test : Entry → Bool) (o : RouteOutcome) :
    OutcomesKept s (s.abortUnit u test o) := by
  unfold State.abortUnit
  split
  · exact refl s
  · next h =>
    split
    · exact postFromUnit h rfl
    · exact refl s

theorem endEntries (s : State) (test : Entry → Bool) (o : RouteOutcome) : OutcomesKept s (s.endEntries test o) :=
  ((endQueued ..).trans (abortUnit ..)).trans (abortUnit ..)

/-- A retry in place (R64). -/
theorem restartAttempt {s : State} {u : UnitName} {a : Attempt} (h : s.units.get u = some a) (n : Nat) :
    OutcomesKept s (s.startAttempt u a.entry n) := by
  have hstarted : OutcomesKept s (s.withUnits (s.units.set u (some (beginAttempt s a.entry n)))) :=
    of_eq rfl (Units.entries_set_same h rfl) rfl
  unfold State.startAttempt
  dsimp only
  split
  · exact hstarted.trans (postFromUnit (a := beginAttempt s a.entry n) (Units.get_set ..) (settledResult_id ..))
  · exact hstarted

/-- A grant moves the head entry to a unit (R50). -/
theorem grant {s : State} {u : UnitName} {e : Entry} {rest : List Entry} (hq : s.queue.entries = e :: rest)
    (hu : s.units.get u = none) : OutcomesKept s (s.grant u) := by
  have hstarted : OutcomesKept s ((s.withQueue { s.queue with entries := rest }).withUnits
      (s.units.set u (some (beginAttempt (s.withQueue { s.queue with entries := rest }) e 1)))) := by
    refine ⟨?_, rfl, rfl, by rw [hq]; exact Nat.le_succ _, fun _ h => h⟩
    rw [outstandingIds_eq, outstandingIds_eq, hq]
    refine List.Perm.append_right _ ?_
    refine ((Units.entries_set_some hu _).map Entry.id).append_left (rest.map Entry.id) |>.trans ?_
    exact List.perm_middle
  rw [grant_queue hq]
  unfold State.startAttempt
  dsimp only
  split
  · exact hstarted.trans (postFromUnit (a := beginAttempt _ e 1) (Units.get_set ..) (settledResult_id ..))
  · exact hstarted

/-- With no sweep the arbiter's grants keep every outcome owed. -/
theorem settleLoop {s : State} (h : s.evacActive = false) (n : Nat) : OutcomesKept s (State.settleLoop n s) := by
  induction n generalizing s with
  | zero => exact refl s
  | succ n ih =>
    unfold State.settleLoop
    split
    · exact refl s
    · next t ht =>
      unfold State.settleStep at ht
      split at ht
      · next u hq hu =>
        cases ht
        have hactive : (s.grant u).evacActive = false := by
          rw [State.evacActive, (RouteKeeps.grant s _).evacState]
          exact h
        exact (grant hq (freeUnit_get hu)).trans (ih hactive)
      · rw [State.sweepNext, h] at ht
        cases ht

theorem settle {s : State} (h : s.evacActive = false) : OutcomesKept s s.settle := settleLoop h _

end OutcomesKept

end Sys2Proof.Machine

/-! # Proofs: the limits and the route ids -/

namespace Sys2Proof.Machine

open Sys2Proof.Safety

/-! ## The next route id (R41) -/

/-- The search for a fresh id goes on from the counter, and each id passed over is taken. -/
theorem freshId_spec (taken : List Nat) (fuel n : Nat) (hn : n < 65536) :
    ∃ k, k ≤ fuel ∧ freshId taken fuel n = (n + k) % 65536 ∧ (∀ j, j < k → (n + j) % 65536 ∈ taken)
      ∧ (k < fuel → (n + k) % 65536 ∉ taken) := by
  induction fuel generalizing n with
  | zero => exact ⟨0, le_rfl, (Nat.mod_eq_of_lt hn).symm, nofun, nofun⟩
  | succ fuel ih =>
    unfold freshId
    split
    · next hmem =>
      obtain ⟨k, hk, he, hpassed, hfree⟩ := ih (wrapInc 65536 n) (wrapInc_lt (by decide) n)
      have hshift : ∀ j, (wrapInc 65536 n + j) % 65536 = (n + (j + 1)) % 65536 := by
        intro j
        unfold wrapInc
        omega
      refine ⟨k + 1, by omega, he.trans (hshift k), fun j hj => ?_, fun hlt => ?_⟩
      · cases j with
        | zero => rw [Nat.add_zero, Nat.mod_eq_of_lt hn]; simpa using hmem
        | succ j => exact hshift j ▸ hpassed j (by omega)
      · exact hshift k ▸ hfree (by omega)
    · next hmem =>
      refine ⟨0, Nat.zero_le _, (Nat.mod_eq_of_lt hn).symm, nofun, fun _ => ?_⟩
      rw [Nat.add_zero, Nat.mod_eq_of_lt hn]
      simpa using hmem

/-- Among more ids than are taken, one is free. -/
theorem freshId_notMem {taken : List Nat} (hlen : taken.length < 65536) {n : Nat} (hn : n < 65536) :
    freshId taken taken.length n ∉ taken := by
  obtain ⟨k, hk, he, hpassed, hfree⟩ := freshId_spec taken taken.length n hn
  rw [he]
  rcases Nat.lt_or_eq_of_le hk with hlt | rfl
  · exact hfree hlt
  · intro hmem
    have hsub : ((List.range (taken.length + 1)).map fun j => (n + j) % 65536) ⊆ taken := by
      intro x hx
      obtain ⟨j, hj, rfl⟩ := List.mem_map.mp hx
      rcases Nat.lt_or_eq_of_le (Nat.le_of_lt_succ (List.mem_range.mp hj)) with hlt | rfl
      · exact hpassed j hlt
      · exact hmem
    have hnodup : ((List.range (taken.length + 1)).map fun j => (n + j) % 65536).Nodup := by
      refine List.Nodup.map_on (fun i hi j hj hij => ?_) List.nodup_range
      rw [List.mem_range] at hi hj
      omega
    have := (List.subperm_of_subset hnodup hsub).length_le
    simp at this

/-! ## An entry joins (R40, R43, R52) -/

theorem joinQueue_perm (l : List Entry) (e : Entry) : (joinQueue l e).Perm (e :: l) := by
  unfold joinQueue
  split
  · exact List.perm_append_singleton ..
  · refine List.perm_middle.trans ?_
    rw [List.takeWhile_append_dropWhile]

theorem accept_ids (s : State) (o : Origin) (d : Dest) (p : Profile) (c : EntryClass) :
    (s.accept o d p c).outstandingIds.Perm (s.takeId :: s.outstandingIds) := by
  have h := ((joinQueue_perm s.queue.entries
    { id := s.takeId, origin := o, dest := d, profile := p, cls := c }).map Entry.id).append_right
      (s.units.entries.map Entry.id)
  exact h.append_right _

/-! ## The limits (R38, R43, R167) -/

theorem limitsKept_iff {s : State} : LimitsKept s ↔ s.queue.outstanding = s.outstandingIds.length
    ∧ s.queue.entries.length ≤ 16 ∧ s.queue.outstanding ≤ 24 ∧ s.port.notices.length ≤ 32 := by
  unfold LimitsKept OutcomesCounted
  rw [outcomesOwed_eq]

theorem limitsKept_of_kept {s t : State} (h : OutcomesKept s t) (hs : LimitsKept s) : LimitsKept t := by
  rw [limitsKept_iff] at hs ⊢
  obtain ⟨hcount, hqueue, hallowed, hnotices⟩ := hs
  rw [h.ids.length_eq, h.outstanding]
  exact ⟨hcount, h.queued.trans hqueue, hallowed, h.notices (by omega) hnotices⟩

theorem limitsKept_accept {s : State} {o : Origin} {d : Dest} {p : Profile} {c : EntryClass} (hs : LimitsKept s)
    (hqueue : s.queue.entries.length < 16) (hallowed : s.queue.outstanding < 24) : LimitsKept (s.accept o d p c) := by
  rw [limitsKept_iff] at hs ⊢
  obtain ⟨hcount, _, _, hnotices⟩ := hs
  have hlen := (joinQueue_perm s.queue.entries
    { id := s.takeId, origin := o, dest := d, profile := p, cls := c }).length_eq
  refine ⟨?_, hlen.le.trans hqueue, hallowed, hnotices⟩
  rw [(accept_ids s o d p c).length_eq]
  exact congrArg (· + 1) hcount

/-- A FETCH gives the ids of the first notices back. -/
theorem fetched_ids (s : State) :
    ((s.port.notices.take 8).filterMap Notice.resultId? ++ s.fetched.outstandingIds).Perm s.outstandingIds := by
  have hsplit : noticeIds s.port
      = (s.port.notices.take 8).filterMap Notice.resultId? ++ (s.port.notices.drop 8).filterMap Notice.resultId? := by
    rw [noticeIds, ← List.filterMap_append, List.take_append_drop]
  rw [outstandingIds_eq, outstandingIds_eq, hsplit]
  show (_ ++ (s.queue.entries.map Entry.id ++ s.units.entries.map Entry.id
    ++ (s.port.notices.drop 8).filterMap Notice.resultId?)).Perm _
  generalize s.queue.entries.map Entry.id ++ s.units.entries.map Entry.id = a
  rw [← List.append_assoc, ← List.append_assoc]
  exact List.perm_append_comm.append_right _

theorem limitsKept_fetched {s : State} (hs : LimitsKept s) : LimitsKept s.fetched := by
  rw [limitsKept_iff] at hs ⊢
  obtain ⟨hcount, hqueue, hallowed, hnotices⟩ := hs
  have hlen := (fetched_ids s).length_eq
  rw [List.length_append, ← resultCount_eq] at hlen
  refine ⟨?_, hqueue, (Nat.sub_le ..).trans hallowed, ?_⟩
  · show s.queue.outstanding - resultCount (s.port.notices.take 8) = _
    omega
  · show (s.port.notices.drop 8).length ≤ 32
    rw [List.length_drop]
    omega

/-! ## Distinct ids (R41) -/

theorem idsDistinct_of_kept {s t : State} (h : OutcomesKept s t) (hs : IdsDistinct s) : IdsDistinct t := by
  obtain ⟨hnodup, hrange, hnext⟩ := hs
  exact ⟨h.ids.nodup_iff.mpr hnodup, fun i hi => hrange i (h.ids.mem_iff.mp hi), h.nextId ▸ hnext⟩

theorem takeId_lt {s : State} (hs : IdsDistinct s) : s.takeId < 65536 := by
  obtain ⟨k, _, he, _⟩ := freshId_spec s.outstandingIds s.outstandingIds.length s.queue.nextId hs.2.2
  exact (congrArg (· < 65536) he).mpr (Nat.mod_lt _ (by decide))

theorem takeId_notMem {s : State} (hl : LimitsKept s) (hs : IdsDistinct s) : s.takeId ∉ s.outstandingIds := by
  obtain ⟨hcount, _, hallowed, _⟩ := limitsKept_iff.mp hl
  exact freshId_notMem (by omega) hs.2.2

theorem idsDistinct_accept {s : State} {o : Origin} {d : Dest} {p : Profile} {c : EntryClass} (hl : LimitsKept s)
    (hs : IdsDistinct s) : IdsDistinct (s.accept o d p c) := by
  have hperm := accept_ids s o d p c
  have hfresh := takeId_notMem hl hs
  have hlt := takeId_lt hs
  obtain ⟨hnodup, hrange, _⟩ := hs
  refine ⟨hperm.nodup_iff.mpr (List.nodup_cons.mpr ⟨hfresh, hnodup⟩), fun i hi => ?_,
    wrapInc_lt (by decide) _⟩
  rcases List.mem_cons.mp (hperm.mem_iff.mp hi) with rfl | hi
  · exact hlt
  · exact hrange i hi

theorem idsDistinct_fetched {s : State} (hs : IdsDistinct s) : IdsDistinct s.fetched := by
  obtain ⟨hnodup, hrange, hnext⟩ := hs
  have hperm := fetched_ids s
  exact ⟨(List.nodup_append.mp (hperm.nodup_iff.mpr hnodup)).2.1,
    fun i hi => hrange i (hperm.mem_iff.mp (List.mem_append_right _ hi)), hnext⟩

/-! ## Invariants over the outcomes owed -/

/-- A property kept where the outcomes owed are, by an entry that joins within the limits, and by a FETCH. -/
structure OutcomeInvariant (p : State → Prop) : Prop where
  kept : ∀ {s t}, OutcomesKept s t → p s → p t
  join : ∀ {s o d r c}, p s → s.queue.entries.length < 16 → s.queue.outstanding < 24 → p (s.accept o d r c)
  fetched : ∀ {s}, p s → p s.fetched
  reset : ∀ s : State, p s.hardReset

namespace OutcomeInvariant

variable {p : State → Prop} (h : OutcomeInvariant p)
include h

theorem of_changes {l : List Part} {s t : State} (hc : Changes l s t) (hq : l.contains .entries = false)
    (hu : l.contains .units = false) (hn : l.contains .notices = false) (hs : p s) : p t :=
  h.kept (.of_changes hc hq hu hn) hs

theorem settleStep {s t : State} (ht : s.settleStep = some t) (hs : p s) : p t := by
  unfold State.settleStep at ht
  split at ht
  · next hq hu =>
    cases ht
    exact h.kept (.grant hq (freeUnit_get hu)) hs
  · split at ht
    · next n hn =>
      cases ht
      unfold State.sweepNext at hn
      split at hn
      · next hroom =>
        simp only [Bool.and_eq_true, decide_eq_true_eq] at hroom
        obtain ⟨⟨_, hqueue⟩, hallowed⟩ := hroom
        have hjoined : p (s.accept (.screen n) .exit .evacuation .evacuation) := h.join hs hqueue hallowed
        exact h.kept (s := s.accept (.screen n) .exit .evacuation .evacuation) (.of_eq rfl rfl rfl) hjoined
      · cases hn
    · cases ht

theorem settle {s : State} (hs : p s) : p s.settle := by
  have hloop : ∀ n s, p s → p (State.settleLoop n s) := by
    intro n
    induction n with
    | zero => exact fun _ hs => hs
    | succ n ih =>
      intro s hs
      unfold State.settleLoop
      split
      · exact hs
      · next ht => exact ih _ (h.settleStep ht hs)
  exact hloop _ s hs

theorem bump {s : State} (hs : p s) : p s.bump := by
  have hcore : p s.bumpCore := h.kept (.bumpCore s) hs
  unfold State.bump
  split
  · exact h.settle hcore
  · exact hcore

theorem act {s t : State} (ha : Act s t) (hs : p s) : p t := by
  cases ha with
  | aside ha => exact h.kept (.of_eq ha.queue (congrArg Units.entries ha.units) ha.notices) hs
  | post n hn => exact h.kept (.post s hn) hs
  | bump => exact h.bump hs
  | countIdle => exact h.of_changes (Changes.countIdle s) rfl rfl rfl hs
  | clearFailures => exact h.kept (s := s) (.of_eq rfl rfl rfl) hs

theorem endScreenEntry {s : State} (hs : p s) (n : Fin 48) (o : RouteOutcome) : p (s.endScreenEntry n o) := by
  unfold State.endScreenEntry
  split
  · exact h.settle (h.kept (.endEntries ..) hs)
  · exact hs

theorem withdraw {s : State} (hs : p s) (n : Fin 48) (ses : Session) : p (s.withdraw n ses) := by
  unfold State.withdraw
  split
  · exact h.endScreenEntry (h.of_changes (Changes.modifySession ..) rfl rfl rfl hs) _ _
  · exact hs

theorem takeRequest {s : State} (hs : p s) (n : Fin 48) (c : Screen) (b : Bool) (x : ReplyExtras)
    (f : Session → Session) : p (takeRequest s n c b x f).1 := by
  have hmodified : p ((if b then s.withdraw n c.session else s).modifySession n fun d ses => (f ses).restartIdle d) := by
    refine h.of_changes (Changes.modifySession ..) rfl rfl rfl ?_
    split
    · exact h.withdraw hs n _
    · exact hs
  unfold Machine.takeRequest
  dsimp only
  split <;> exact hmodified

theorem entryEvent {s : State} (hs : p s) (c : EvacCause) : p (s.entryEvent c) := by
  have hended : p ((s.evacTo .active).endEntries (fun e => e.cls == .normal) .evacCancelled) :=
    h.kept (.endEntries ..) (h.of_changes (Changes.evacTo ..) rfl rfl rfl hs)
  have hbumped := h.kept (.bumpCore _) (h.of_changes (Changes.holdTimers _) rfl rfl rfl
    (h.of_changes (Changes.mapSessions _ fun _ ses => ses.toAlert) rfl rfl rfl hended))
  exact h.settle (h.of_changes (Changes.setAck _ true) rfl rfl rfl (h.kept (.post _ rfl)
    (h.of_changes (Changes.dueAll _) rfl rfl rfl hbumped)))

theorem exitEvent {s : State} (hs : p s) : p s.exitEvent := by
  have hended : p ((s.evacTo .inactive).endEntries (fun e => e.cls == .evacuation) .evacEnded) :=
    h.kept (.endEntries ..) (h.of_changes (Changes.evacTo ..) rfl rfl rfl hs)
  have hbumped := h.kept (.bumpCore _) (h.of_changes (Changes.mapSessions _ Session.leaveAlert) rfl rfl rfl
    (h.of_changes (Changes.clearDue _) rfl rfl rfl hended))
  exact h.settle (h.of_changes (Changes.setAck _ false) rfl rfl rfl (h.kept (.post _ rfl) hbumped))

theorem raiseEvac {s : State} (hs : p s) (c : EvacCause) : p (s.raiseEvac c) := by
  unfold State.raiseEvac
  split
  · split
    · exact h.entryEvent hs c
    · exact h.kept (.post _ rfl) (h.of_changes (Changes.evacTo ..) rfl rfl rfl hs)
  all_goals exact hs

theorem endPending {s : State} (hs : p s) : p s.endPending :=
  h.kept (.post _ rfl) (h.of_changes (Changes.setAck ..) rfl rfl rfl (h.of_changes (Changes.clearDue _) rfl rfl rfl
    (h.of_changes (Changes.evacTo ..) rfl rfl rfl hs)))

theorem leaveService {s : State} (hs : p s) : p s.leaveService := by
  unfold State.leaveService
  have hended : p (s.endEntries (fun _ => true) .serviceStopped) := h.kept (.endEntries ..) hs
  generalize s.endEntries (fun _ => true) .serviceStopped = u at hended
  have hload := h.of_changes (Changes.mapSessions _ fun d ses => ses.toDormant d) rfl rfl rfl
    (h.of_changes (Changes.withMode u .load) rfl rfl rfl hended)
  have htimers := h.of_changes (Changes.withTimers _ (mapFin (fun _ t => t.stop) u.clock.timers)) rfl rfl rfl hload
  dsimp only
  unfold State.stopEvac
  split
  · exact h.kept (.post _ rfl) (h.of_changes (Changes.clearDue _) rfl rfl rfl
      (h.of_changes (Changes.evacTo ..) rfl rfl rfl htimers))
  · exact htimers

theorem complete {s : State} (hs : p s) (u : UnitName) : p (s.complete u) := by
  unfold State.complete State.completeAttempt
  split
  · exact hs
  · next ha =>
    refine h.settle ?_
    split
    · split
      · exact h.kept (.restartAttempt ha _) hs
      · exact h.kept (.postFromUnit ha (checkedResult_id ..)) hs
    · exact h.kept (.postFromUnit ha (settledResult_id ..)) hs

end OutcomeInvariant

/-- A session request acts on a session found that is neither DORMANT nor in ALERT (R127). -/
theorem sessionRequest_preserves {p : State → Prop} {s : State} (hs : p s) {n : Nat} {x y z : Bool}
    {f : Fin 48 → Screen → State × Answer}
    (hf : ∀ k c, s.screens[k] = some c → c.session.state ≠ .dormant → c.session.state ≠ .alert → p (f k c).1) :
    p (sessionRequest n x y z s f).1 := by
  unfold sessionRequest
  split
  · exact hs
  · split
    · exact hs
    · next k _ _ c hc =>
      refine checked_preserves hs fun hpass => ?_
      have hawake : (c.session.state != .dormant) = true :=
        hpass (c.session.state != .dormant, .no .wrongMode) (by simp [sessionChecks])
      have halert : (c.session.state != .alert) = true :=
        hpass (c.session.state != .alert, .no .evacActive) (by simp [sessionChecks])
      exact hf k c hc (by simpa using hawake) (by simpa using halert)

/-! ## Ending entries -/

theorem abortUnit_queue (s : State) (u : UnitName) (test : Entry → Bool) (o : RouteOutcome) :
    (s.abortUnit u test o).queue = s.queue := by
  unfold State.abortUnit
  repeat' split
  all_goals simp

theorem endEntries_queue (s : State) (test : Entry → Bool) (o : RouteOutcome) : (s.endEntries test o).queue
    = { s.queue with entries := s.queue.entries.filter fun e => !test e } := by
  unfold State.endEntries State.endQueued
  obtain ⟨hqueue, _⟩ := OutcomesKept.foldl_postFromQueue o (s.queue.entries.filter test)
    (s.withQueue { s.queue with entries := s.queue.entries.filter fun e => !test e })
  rw [abortUnit_queue, abortUnit_queue, hqueue]
  rfl

theorem screenEntry_eq_none {s : State} {n : Fin 48} :
    s.screenEntry? n = none ↔ ∀ e ∈ s.queue.entries ++ s.units.entries, Entry.ofScreen .normal n e = false := by
  simp only [State.screenEntry?, Option.map_eq_none_iff, List.find?_eq_none, Bool.not_eq_true]

/-- Outside evacuation a superseding keeps every outcome owed, and leaves the queue no longer than the capacity check
counted it (R39, R45). -/
theorem supersede_outcomes {s : State} (hactive : s.evacActive = false) (o : Origin) :
    OutcomesKept s (s.supersede o) ∧ (s.supersede o).queue.entries.length ≤ s.capacityCount (some o) := by
  cases o with
  | node => exact ⟨.refl s, le_rfl⟩
  | screen n =>
    simp only [State.supersede, State.endScreenEntry, State.capacityCount]
    split
    · have hended : (s.endEntries (Entry.ofScreen .normal n) .superseded).evacActive = false := by
        rw [State.evacActive, (RouteKeeps.endEntries ..).evacState]
        exact hactive
      have hsettled := OutcomesKept.settle hended
      refine ⟨(OutcomesKept.endEntries ..).trans hsettled, hsettled.queued.trans ?_⟩
      rw [endEntries_queue]
    · next hnone =>
      rw [Bool.not_eq_true, Option.isSome_eq_false_iff, Option.isNone_iff_eq_none, screenEntry_eq_none] at hnone
      refine ⟨.refl s, le_of_eq (congrArg List.length (List.filter_eq_self.mpr fun e he => ?_).symm)⟩
      rw [hnone e (List.mem_append_left _ he)]
      rfl

namespace OutcomeInvariant

variable {p : State → Prop} (h : OutcomeInvariant p)
include h

theorem route {s : State} (hs : p s) (a : RouteArgs) : p (routeEffect a s).1 := by
  unfold routeEffect
  refine checked_preserves hs fun hpass => ?_
  split
  · next o d ho hd =>
    have hactive : (!s.evacActive) = true := hpass (!s.evacActive, .no .evacActive) (by simp [routeChecks])
    have hallowed : decide (s.queue.outstanding < 24) = true :=
      hpass (s.queue.outstanding < 24, .noWith .queueFull [(.limit, .word .outcomes)]) (by simp [routeChecks])
    have hcapacity : decide (s.capacityCount (routeOrigin? a) < 16) = true :=
      hpass (s.capacityCount (routeOrigin? a) < 16, .noWith .queueFull [(.limit, .word .queue)]) (by simp [routeChecks])
    rw [decide_eq_true_eq] at hallowed hcapacity
    rw [ho] at hcapacity
    obtain ⟨hkept, hlen⟩ := supersede_outcomes (by simpa using hactive) o
    have hcounted : OutcomesKept (s.supersede o) ((s.supersede o).countDemand d) :=
      .of_changes (Changes.countDemand ..) rfl rfl rfl
    have hboth := hkept.trans hcounted
    have hjoined : p (((s.supersede o).countDemand d).accept o d (s.routeProfile a.profile o) .normal) :=
      h.join (h.kept hboth hs) (hcounted.queued.trans_lt (hlen.trans_lt hcapacity)) (hboth.outstanding ▸ hallowed)
    exact h.settle (h.of_changes (Changes.handId ..) rfl rfl rfl hjoined)
  · exact hs

/-- Every move keeps an invariant over the outcomes owed. -/
theorem move (c : Instr) {s : State} (hs : p s) : p (moveOf c s) := by
  have hacts : ∀ {c : Instr}, movesRoutes c = false → p (moveOf c s) := fun hc =>
    (moveOf_acts _ s hc).keeps h.act hs
  have huntouched : ∀ {c : Instr}, c ≠ .hardReset → (touches c).contains .entries = false →
      (touches c).contains .units = false → (touches c).contains .notices = false → p (moveOf c s) :=
    fun hc hq hu hn => h.of_changes (moveOf_changes _ s hc) hq hu hn hs
  cases c with
  | hardReset => exact h.reset s
  | fetch => exact h.settle (h.fetched hs)
  | start =>
    refine checked_preserves hs fun _ => ?_
    have henter : p s.enterService := h.of_changes (Changes.enterService s) rfl rfl rfl hs
    split
    · exact hs
    · dsimp only
      split
      · exact h.entryEvent henter _
      · exact henter
  | stop => exact checked_preserves hs fun _ => h.leaveService hs
  | mapClear | screenDeclare | screenUndeclare => exact huntouched nofun rfl rfl rfl
  | route _ a => exact h.route hs a
  | routeCancel _ id =>
    refine checked_preserves hs fun _ => ?_
    split
    · exact hs
    · split
      · exact hs
      · exact h.settle (h.kept (.endEntries ..) hs)
  | completionEvent u => exact h.complete hs u
  | nav _ n a =>
    refine sessionRequest_preserves hs fun k c _ _ _ => ?_
    split
    · exact hs
    · exact h.takeRequest hs ..
  | back | backRestore | home | prefs | tap => exact sessionRequest_preserves hs fun _ _ _ _ _ => h.takeRequest hs ..
  | idleTimerExpiry n =>
    simp only [moveOf, State.idleExpires]
    split
    · exact hs
    · split
      · exact h.of_changes (Changes.modifySession ..) rfl rfl rfl (h.withdraw hs n _)
      · exact hs
  | evacInRise =>
    simp only [moveOf]
    split
    · exact h.raiseEvac (h.of_changes (Changes.evacLevel ..) rfl rfl rfl hs) .line
    · exact hs
  | evac => exact h.raiseEvac hs .host
  | evacEnd =>
    refine checked_preserves hs fun _ => ?_
    dsimp only
    split
    · exact h.exitEvent hs
    · exact h.endPending hs
    · exact hs
  | _ => exact hacts rfl

theorem keptByEveryStep : KeptByEveryStep p :=
  keptByEveryStep_of_move (fun s _ hs => h.kept (s := s) (.of_eq rfl rfl rfl) hs)
    (fun s c hs => h.of_changes (Changes.taken s c) rfl rfl rfl hs)
    (fun s tag a hs => h.of_changes (Changes.reply s tag a) rfl rfl rfl hs) fun c _ hs => h.move c hs

end OutcomeInvariant

theorem outstandingIds_hardReset (s : State) : s.hardReset.outstandingIds = [] := rfl

theorem limitsKept_hardReset (s : State) : LimitsKept s.hardReset :=
  limitsKept_iff.mpr ⟨rfl, Nat.zero_le _, Nat.zero_le _, Nat.zero_le _⟩

theorem idsDistinct_hardReset (s : State) : IdsDistinct s.hardReset := by
  unfold IdsDistinct
  rw [outstandingIds_hardReset]
  exact ⟨List.nodup_nil, nofun, (by decide : 0 < 65536)⟩

/-- Settles O5: every act keeps the outcomes owed or has one more join within the limits. -/
theorem everyStepKeepsTheLimits : Obligations.EveryStepKeepsTheLimits :=
  OutcomeInvariant.keptByEveryStep
    { kept := limitsKept_of_kept
      join := limitsKept_accept
      fetched := limitsKept_fetched
      reset := limitsKept_hardReset }

/-- Settles O6: an entry that joins takes the first id that no outstanding outcome carries, and every other act keeps the ids
or gives some back. -/
theorem everyStepKeepsRouteIdsDistinct : Obligations.EveryStepKeepsRouteIdsDistinct :=
  OutcomeInvariant.keptByEveryStep (p := fun s => LimitsKept s ∧ IdsDistinct s)
    { kept := fun h hs => ⟨limitsKept_of_kept h hs.1, idsDistinct_of_kept h hs.2⟩
      join := fun hs hqueue hallowed => ⟨limitsKept_accept hs.1 hqueue hallowed, idsDistinct_accept hs.1 hs.2⟩
      fetched := fun hs => ⟨limitsKept_fetched hs.1, idsDistinct_fetched hs.2⟩
      reset := fun s => ⟨limitsKept_hardReset s, idsDistinct_hardReset s⟩ }

/-- Settles O35, by the search of `freshId`. -/
theorem routeIdIsFresh : Obligations.RouteIdIsFresh := by
  intro s hl hs
  have hfresh := takeId_notMem hl hs
  have hlt := takeId_lt hs
  obtain ⟨hcount, _, hallowed, _⟩ := limitsKept_iff.mp hl
  obtain ⟨k, hk, he, hpassed, _⟩ := freshId_spec s.outstandingIds s.outstandingIds.length s.queue.nextId hs.2.2
  exact ⟨hfresh, hlt, k, by omega, he, hpassed⟩

end Sys2Proof.Machine

/-! # Proofs: the acts of the route machinery, and the modes that agree -/

namespace Sys2Proof.Machine

open Sys2Proof.Safety

/-! ## What a session takes from the route machinery -/

/-- A session takes outcomes, of routes and of evacuation, one after another (R136, R139). -/
inductive Takes (d : ScreenDecl) : Session → Session → Prop
  | refl (x : Session) : Takes d x x
  | outcome {x y : Session} (h : Takes d x y) (id : Nat) (o : RouteOutcome) : Takes d x (y.takeOutcome id o d)
  | evac {x y : Session} (h : Takes d x y) (id : Nat) (o : RouteOutcome) : Takes d x (y.takeEvacResult id o d)

theorem Takes.trans {d : ScreenDecl} {x y z : Session} (h : Takes d x y) (k : Takes d y z) : Takes d x z := by
  induction k with
  | refl => exact h
  | outcome _ id o ih => exact ih.outcome id o
  | evac _ id o ih => exact ih.evac id o

/-- The screens declared are the same, and each session has taken outcomes alone. -/
def SessionsTake (s t : State) : Prop :=
  ∀ n : Fin 48, (s.screens[n] = none ∧ t.screens[n] = none)
    ∨ ∃ c x, s.screens[n] = some c ∧ t.screens[n] = some { c with session := x } ∧ Takes c.decl c.session x

theorem SessionsTake.of_eq {s t : State} (h : t.screens = s.screens) : SessionsTake s t := by
  intro n
  rw [h]
  cases hn : s.screens[n] with
  | none => exact .inl ⟨rfl, rfl⟩
  | some c => exact .inr ⟨c, c.session, rfl, rfl, .refl _⟩

theorem SessionsTake.trans {s t u : State} (h : SessionsTake s t) (k : SessionsTake t u) : SessionsTake s u := by
  intro n
  rcases h n with ⟨hs, ht⟩ | ⟨c, x, hs, ht, hx⟩
  · rcases k n with ⟨_, hu⟩ | ⟨d, y, ht', _⟩
    · exact .inl ⟨hs, hu⟩
    · rw [ht] at ht'
      cases ht'
  · rcases k n with ⟨ht', _⟩ | ⟨d, y, ht', hu, hy⟩
    · rw [ht] at ht'
      cases ht'
    · rw [ht] at ht'
      cases ht'
      exact .inr ⟨c, y, hs, hu, hx.trans hy⟩

theorem modifySession_get (s : State) (n k : Fin 48) (f : ScreenDecl → Session → Session) :
    (s.modifySession n f).screens[k]
      = if n = k then (s.screens[k]).map fun c => { c with session := f c.decl c.session } else s.screens[k] := by
  rw [State.modifySession_screens, modifyAt_get]

theorem mapSessions_get (s : State) (k : Fin 48) (f : ScreenDecl → Session → Session) :
    (s.mapSessions f).screens[k] = (s.screens[k]).map fun c => { c with session := f c.decl c.session } := by
  rw [State.mapSessions_screens, mapFin_get]

theorem SessionsTake.modifySession (s : State) (n : Fin 48) {f : ScreenDecl → Session → Session}
    (hf : ∀ d x, Takes d x (f d x)) : SessionsTake s (s.modifySession n f) := by
  intro k
  rw [modifySession_get]
  cases hk : s.screens[k] with
  | none => exact .inl ⟨rfl, by simp⟩
  | some c =>
    split
    · exact .inr ⟨c, f c.decl c.session, rfl, rfl, hf _ _⟩
    · exact .inr ⟨c, c.session, rfl, rfl, .refl _⟩

/-! ## The acts of the route machinery -/

/-- The entries queued and in the units. -/
def State.allEntries (s : State) : List Entry := s.queue.entries ++ s.units.entries

/-- No entry is queued, and both units are IDLE. -/
def State.Vacant (s : State) : Prop := s.queue.entries = [] ∧ s.units = ⟨none, none⟩

/-- What the acts of the route machinery do to modes, due flags, entries and sessions: a due flag is cleared at most, an entry
new to the queue is one of the sweep, an empty queue with both units IDLE stays so while evacuation is not ACTIVE, and
sessions take outcomes. -/
structure RouteMoves (s t : State) : Prop where
  keeps : RouteKeeps s t
  due : ∀ n : Fin 48, t.evac.due[n] = true → s.evac.due[n] = true
  entries : ∀ e ∈ t.allEntries, e ∈ s.allEntries ∨ s.evacActive = true ∧ e.cls = .evacuation
  vacant : s.evacActive = false → s.Vacant → t.Vacant
  sessions : SessionsTake s t

namespace RouteMoves

theorem refl (s : State) : RouteMoves s s :=
  ⟨.refl s, fun _ h => h, fun _ h => .inl h, fun _ h => h, .of_eq rfl⟩

theorem evacActive {s t : State} (h : RouteMoves s t) : t.evacActive = s.evacActive := by
  rw [State.evacActive, State.evacActive, h.keeps.evacState]

theorem trans {s t u : State} (h : RouteMoves s t) (k : RouteMoves t u) : RouteMoves s u := by
  refine ⟨h.keeps.trans k.keeps, fun n hn => h.due n (k.due n hn), fun e he => ?_,
    fun ha hs => k.vacant (h.evacActive.trans ha) (h.vacant ha hs), h.sessions.trans k.sessions⟩
  rcases k.entries e he with he | ⟨ha, hc⟩
  · exact h.entries e he
  · exact .inr ⟨h.evacActive.symm.trans ha, hc⟩

theorem post (s : State) (n : Notice) : RouteMoves s (s.post n) :=
  ⟨.post s n, fun _ h => h, fun _ h => .inl h, fun _ h => h, .of_eq rfl⟩

theorem countFailure (s : State) (o : RouteOutcome) : RouteMoves s (s.countFailure o) := by
  refine ⟨.countFailure s o, fun n h => ?_, fun e h => .inl ?_, fun _ h => ?_, .of_eq (by simp)⟩
  · simpa using h
  · simpa [State.allEntries] using h
  · simpa [State.Vacant] using h

theorem setDue_false_get (s : State) (n k : Fin 48) (h : (s.setDue n false).evac.due[k] = true) :
    s.evac.due[k] = true := by
  have hget : (s.evac.due.set n false)[k] = if n.val = k.val then false else s.evac.due[k] := Vector.getElem_set ..
  rw [State.setDue_evac] at h
  replace h := hget.symm.trans h
  split at h
  · cases h
  · exact h

theorem handOutcome (s : State) (r : RouteResult) : RouteMoves s (s.handOutcome r) := by
  have hentries : (s.handOutcome r).allEntries = s.allEntries := by simp [State.allEntries]
  refine ⟨.handOutcome s r, fun n h => ?_, fun e h => .inl (hentries ▸ h), fun _ h => by simpa [State.Vacant] using h, ?_⟩
  · unfold State.handOutcome at h
    repeat' split at h
    · exact h
    · exact h
    · exact setDue_false_get (s.modifySession _ _) _ _ h
    · exact h
  · unfold State.handOutcome
    split
    · exact .of_eq rfl
    · split
      · exact .modifySession s _ fun d x => (Takes.refl x).outcome _ _
      · have htake := SessionsTake.modifySession s ‹Fin 48› (f := Session.takeEvacResult r.id r.outcome)
          fun d x => (Takes.refl x).evac r.id r.outcome
        dsimp only
        split
        · exact htake.trans (.of_eq rfl)
        · exact htake

theorem postFromUnit (s : State) (u : UnitName) (r : RouteResult) : RouteMoves s (s.postFromUnit u r) := by
  have hhanded := ((post s (.routeResult r)).trans (countFailure _ r.outcome)).trans (handOutcome _ r)
  unfold State.postFromUnit
  dsimp only
  generalize ((s.post (.routeResult r)).countFailure r.outcome).handOutcome r = t at hhanded
  refine hhanded.trans ⟨.withUnits .., fun _ h => h, fun e h => .inl ?_, fun _ h => ?_, .of_eq rfl⟩
  · have hsub : ∀ {e}, e ∈ (t.units.set u none).entries → e ∈ t.units.entries := by
      intro e he
      cases u <;> simp only [Units.set, Units.entries, Option.toList_none, List.nil_append, List.append_nil, List.map_append,
        List.mem_append] at he ⊢
      · exact .inr he
      · exact .inl he
    rcases List.mem_append.mp h with h | h
    · exact List.mem_append_left _ h
    · exact List.mem_append_right _ (hsub h)
  · obtain ⟨hq, hu⟩ := h
    exact ⟨hq, by rw [State.withUnits_units, hu]; cases u <;> rfl⟩

theorem postFromQueue (s : State) (o : RouteOutcome) (e : Entry) : RouteMoves s (s.postFromQueue o e) :=
  (post s _).trans (handOutcome ..)

theorem foldl {α : Type} {f : State → α → State} (h : ∀ s a, RouteMoves s (f s a)) (l : List α) (s : State) :
    RouteMoves s (l.foldl f s) :=
  foldl_keeps (p := RouteMoves s) (fun _ a hs => hs.trans (h _ a)) l (refl s)

theorem endQueued (s : State) (test : Entry → Bool) (o : RouteOutcome) : RouteMoves s (s.endQueued test o) := by
  have hremoved : RouteMoves s (s.withQueue { s.queue with entries := s.queue.entries.filter fun e => !test e }) := by
    refine ⟨.withQueue .., fun _ h => h, fun e h => .inl ?_, fun _ h => ⟨?_, h.2⟩, .of_eq rfl⟩
    · rcases List.mem_append.mp h with h | h
      · exact List.mem_append_left _ (List.mem_filter.mp h).1
      · exact List.mem_append_right _ h
    · show s.queue.entries.filter _ = []
      rw [h.1]
      rfl
  exact hremoved.trans (foldl (fun s e => postFromQueue s o e) _ _)

theorem abortUnit (s : State) (u : UnitName) (test : Entry → Bool) (o : RouteOutcome) :
    RouteMoves s (s.abortUnit u test o) := by
  unfold State.abortUnit
  split
  · exact refl s
  · split
    · exact postFromUnit ..
    · exact refl s

theorem endEntries (s : State) (test : Entry → Bool) (o : RouteOutcome) : RouteMoves s (s.endEntries test o) :=
  ((endQueued ..).trans (abortUnit ..)).trans (abortUnit ..)

theorem mem_units_set {u : Units} {k : UnitName} {a : Attempt} {e : Entry} (h : e ∈ (u.set k (some a)).entries) :
    e = a.entry ∨ e ∈ u.entries := by
  obtain ⟨x, y⟩ := u
  cases k <;> cases x <;> cases y <;> simp [Units.set, Units.entries] at h ⊢ <;> tauto

/-- A start event for an entry of the state before. -/
theorem startAttempt {s t : State} {u : UnitName} {e : Entry} {n : Nat}
    (h : RouteMoves s (t.withUnits (t.units.set u (some (beginAttempt t e n))))) : RouteMoves s (t.startAttempt u e n) := by
  unfold State.startAttempt
  dsimp only
  split
  · exact h.trans (postFromUnit ..)
  · exact h

theorem grant {s : State} {u : UnitName} {e : Entry} {rest : List Entry} (hq : s.queue.entries = e :: rest) :
    RouteMoves s (s.grant u) := by
  rw [grant_queue hq]
  refine startAttempt ⟨(RouteKeeps.withQueue ..).trans (.withUnits ..), fun _ h => h, fun x hx => .inl ?_,
    fun _ h => ?_, .of_eq rfl⟩
  · rcases List.mem_append.mp hx with hx | hx
    · exact List.mem_append_left _ (hq ▸ List.mem_cons_of_mem _ hx)
    · rcases mem_units_set hx with rfl | hx
      · exact List.mem_append_left _ (hq ▸ List.mem_cons_self)
      · exact List.mem_append_right _ hx
  · obtain ⟨hnil, _⟩ := h
    rw [hq] at hnil
    cases hnil

theorem mem_entries_of_get {u : Units} {k : UnitName} {a : Attempt} (h : u.get k = some a) : a.entry ∈ u.entries := by
  obtain ⟨x, y⟩ := u
  cases k <;> cases h <;> simp [Units.entries]

theorem restartAttempt {s : State} {u : UnitName} {a : Attempt} (h : s.units.get u = some a) (n : Nat) :
    RouteMoves s (s.startAttempt u a.entry n) := by
  refine startAttempt ⟨.withUnits .., fun _ h => h, fun x hx => .inl ?_, fun _ hv => ?_, .of_eq rfl⟩
  · rcases List.mem_append.mp hx with hx | hx
    · exact List.mem_append_left _ hx
    · rcases mem_units_set hx with rfl | hx
      · exact List.mem_append_right _ (mem_entries_of_get (a := a) h)
      · exact List.mem_append_right _ hx
  · obtain ⟨_, hu⟩ := hv
    rw [hu] at h
    cases u <;> cases h

theorem sweepOne {s : State} {n : Fin 48} (ha : s.evacActive = true) : RouteMoves s (s.sweepOne n) := by
  refine ⟨.sweepOne s n, fun k h => setDue_false_get (s.accept ..) n k h, fun e he => ?_, fun h => ?_, .of_eq rfl⟩
  · have hsplit : e ∈ joinQueue s.queue.entries ⟨s.takeId, .screen n, .exit, .evacuation, .evacuation⟩
        ∨ e ∈ s.units.entries := List.mem_append.mp he
    rcases hsplit with he | he
    · rcases List.mem_cons.mp ((joinQueue_perm ..).mem_iff.mp he) with rfl | he
      · exact .inr ⟨ha, rfl⟩
      · exact .inl (List.mem_append_left _ he)
    · exact .inl (List.mem_append_right _ he)
  · rw [ha] at h
    cases h

theorem settleStep {s t : State} (h : s.settleStep = some t) : RouteMoves s t := by
  unfold State.settleStep at h
  split at h
  · next hq _ =>
    cases h
    exact grant hq
  · split at h
    · next hn =>
      cases h
      unfold State.sweepNext at hn
      split at hn
      · next hroom =>
        simp only [Bool.and_eq_true] at hroom
        exact sweepOne hroom.1.1
      · cases hn
    · cases h

theorem settle (s : State) : RouteMoves s s.settle := by
  have hloop : ∀ n s, RouteMoves s (State.settleLoop n s) := by
    intro n
    induction n with
    | zero => exact refl
    | succ n ih =>
      intro s
      unfold State.settleLoop
      split
      · exact refl s
      · next h => exact (settleStep h).trans (ih _)
  exact hloop _ s

theorem complete (s : State) (u : UnitName) : RouteMoves s (s.complete u) := by
  unfold State.complete State.completeAttempt
  split
  · exact refl s
  · next ha =>
    refine RouteMoves.trans ?_ (settle _)
    split
    · split
      · exact restartAttempt ha _
      · exact postFromUnit ..
    · exact postFromUnit ..

theorem endScreenEntry (s : State) (n : Fin 48) (o : RouteOutcome) : RouteMoves s (s.endScreenEntry n o) := by
  unfold State.endScreenEntry
  split
  · exact (endEntries ..).trans (settle _)
  · exact refl s

end RouteMoves

/-! ## The arbiter and the sweep come to rest (R50, R148) -/

/-- How many acts of the arbiter and the sweep can still follow. -/
def State.settleMeasure (s : State) : Nat := s.queue.entries.length + 2 * (24 - s.queue.outstanding)

theorem startAttempt_queue (s : State) (u : UnitName) (e : Entry) (n : Nat) : (s.startAttempt u e n).queue = s.queue := by
  unfold State.startAttempt
  dsimp only
  split
  · exact postFromUnit_queue ..
  · rfl

theorem settleStep_measure {s t : State} (h : s.settleStep = some t) : t.settleMeasure < s.settleMeasure := by
  unfold State.settleStep at h
  unfold State.settleMeasure
  split at h
  · next hq _ =>
    cases h
    rw [grant_queue hq, startAttempt_queue, hq]
    simp
  · split at h
    · next n hn =>
      cases h
      unfold State.sweepNext at hn
      split at hn
      · next hroom =>
        simp only [Bool.and_eq_true, decide_eq_true_eq] at hroom
        obtain ⟨_, hallowed⟩ := hroom
        have hlen : (s.sweepOne n).queue.entries.length = s.queue.entries.length + 1 :=
          (joinQueue_perm s.queue.entries ⟨s.takeId, .screen n, .exit, .evacuation, .evacuation⟩).length_eq
        have hout : (s.sweepOne n).queue.outstanding = s.queue.outstanding + 1 := rfl
        rw [hlen, hout]
        omega
      · cases hn
    · cases h

theorem settleLoop_quiet {n : Nat} {s : State} (h : s.settleMeasure < n) : Quiet (State.settleLoop n s) := by
  induction n generalizing s with
  | zero => cases h
  | succ n ih =>
    unfold State.settleLoop
    split
    · next hs => exact hs
    · next t ht =>
      have := settleStep_measure ht
      exact ih (by omega)

theorem quiet_settle (s : State) : Quiet s.settle := settleLoop_quiet (Nat.lt_succ_self _)

theorem settle_of_quiet {s : State} (h : Quiet s) : s.settle = s := by
  unfold State.settle State.settleFuel State.settleLoop
  rw [h]

theorem quiet_iff {s : State} : Quiet s ↔ (s.queue.entries = [] ∨ s.freeUnit = none) ∧ s.sweepNext = none := by
  unfold Quiet State.settleStep
  constructor
  · intro h
    split at h
    · cases h
    · next hne =>
      split at h
      · cases h
      · next hs =>
        refine ⟨?_, hs⟩
        cases hq : s.queue.entries with
        | nil => exact .inl rfl
        | cons e rest =>
          cases hu : s.freeUnit with
          | none => exact .inr rfl
          | some u => exact absurd hu (hne e rest u hq)
  · rintro ⟨hidle, hsweep⟩
    split
    · next hq hu =>
      rcases hidle with hnil | hnone
      · rw [hq] at hnil
        cases hnil
      · rw [hu] at hnone
        cases hnone
    · rw [hsweep]

theorem quiet_of_empty {s : State} (hq : s.queue.entries = []) (ha : s.evacActive = false) : Quiet s := by
  refine quiet_iff.mpr ⟨.inl hq, ?_⟩
  unfold State.sweepNext
  rw [ha]
  rfl

/-- What rest depends on. -/
theorem quiet_congr {s t : State} (hq : t.queue = s.queue) (ha : t.units.a.isSome = s.units.a.isSome)
    (hb : t.units.b.isSome = s.units.b.isSome) (hsweep : t.sweepNext = s.sweepNext) (h : Quiet s) : Quiet t := by
  rw [quiet_iff] at h ⊢
  obtain ⟨hidle, hs⟩ := h
  refine ⟨hidle.imp (hq ▸ ·) fun hnone => ?_, hsweep.trans hs⟩
  have hfree : ∀ u : State, u.freeUnit = none ↔ u.units.a.isSome = true ∧ u.units.b.isSome = true := by
    intro u
    unfold State.freeUnit
    cases u.units.a <;> cases u.units.b <;> simp
  rw [hfree] at hnone ⊢
  rwa [ha, hb]

theorem sweepNext_congr {s t : State} (hq : t.queue = s.queue) (hu : t.units.entries = s.units.entries)
    (hd : ∀ n : Fin 48, (t.screens[n]).isSome = (s.screens[n]).isSome) (ha : t.evac.state = s.evac.state)
    (hdue : t.evac.due = s.evac.due) : t.sweepNext = s.sweepNext := by
  have hsweepable : ∀ n : Fin 48, t.sweepable n = s.sweepable n := fun n => by
    simp only [State.sweepable, State.evacEntryQueued, State.evacEntryInUnit, hd, hdue, hq, hu]
  have hactive : t.evacActive = s.evacActive := congrArg (· == EvacState.active) ha
  unfold State.sweepNext
  rw [hactive, hq]
  simp only [hsweepable]

theorem sweepNext_of_inactive {s : State} (h : s.evacActive = false) : s.sweepNext = none := by
  unfold State.sweepNext
  rw [h]
  rfl

theorem isSome_of_decls {s t : State} (h : Part.decls.same s t) (n : Fin 48) :
    (t.screens[n]).isSome = (s.screens[n]).isSome := by
  have := congrArg Option.isSome (congrFun h n)
  simpa only [Option.isSome_map] using this

theorem quiet_of_changes {l : List Part} {s t : State} (h : Changes l s t) (hq : l.contains .entries = false)
    (hu : l.contains .units = false) (hd : l.contains .decls = false) (ha : l.contains .evacState = false)
    (hdue : l.contains .due = false) (hs : Quiet s) : Quiet t := by
  have hqueue : t.queue = s.queue := h.same .entries hq
  have hunits : t.units = s.units := h.same .units hu
  exact quiet_congr hqueue (by rw [hunits]) (by rw [hunits])
    (sweepNext_congr hqueue (by rw [hunits]) (isSome_of_decls (h.same .decls hd)) (h.same .evacState ha)
      (h.same .due hdue)) hs

/-! ## A bump (R20 to R22) -/

theorem bumpCore_cases (s : State) :
    (s.inService = false ∧ s.bumpCore = s)
    ∨ (s.inService = true ∧ s.evacActive = false ∧ s.bumpCore
        = (s.withMap { s.map with generation := nextGeneration s.map.generation }).withUnits
            { a := s.units.a.map Attempt.mark, b := s.units.b.map Attempt.mark })
    ∨ (s.inService = true ∧ s.evacActive = true) := by
  unfold State.bumpCore
  cases hi : s.inService with
  | false => exact .inl ⟨rfl, rfl⟩
  | true =>
    cases ha : s.evacActive with
    | false =>
      refine .inr (.inl ⟨rfl, rfl, ?_⟩)
      rw [if_pos rfl]
      dsimp only
      refine if_neg ?_
      show ¬ s.evacActive = true
      rw [ha]
      exact Bool.false_ne_true
    | true => exact .inr (.inr ⟨rfl, rfl⟩)

theorem quiet_bump {s : State} (hs : Quiet s) : Quiet s.bump := by
  unfold State.bump
  split
  · exact quiet_settle _
  · next h =>
    rcases bumpCore_cases s with ⟨_, e⟩ | ⟨_, ha, e⟩ | ⟨hi, ha⟩
    · rwa [e]
    · rw [e]
      refine quiet_congr (s := s) rfl ?_ ?_ ?_ hs
      · exact Option.isSome_map ..
      · exact Option.isSome_map ..
      · rw [sweepNext_of_inactive ha]
        exact sweepNext_of_inactive ha
    · rw [hi, ha] at h
      exact absurd rfl h

theorem quiet_act {s t : State} (h : Act s t) (hs : Quiet s) : Quiet t := by
  cases h with
  | aside h =>
    exact quiet_congr h.queue (by rw [h.units]) (by rw [h.units])
      (sweepNext_congr h.queue (by rw [h.units]) (fun n => by rw [h.screens]) h.evacState h.due) hs
  | post => exact quiet_of_changes (Changes.post ..) rfl rfl rfl rfl rfl hs
  | bump => exact quiet_bump hs
  | countIdle => exact quiet_of_changes (Changes.countIdle s) rfl rfl rfl rfl rfl hs
  | clearFailures => exact quiet_congr (s := s) rfl rfl rfl rfl hs

end Sys2Proof.Machine

/-! # Proofs: engine mode, evacuation and entry classes agree, and the arbiter is at rest -/

namespace Sys2Proof.Machine

open Sys2Proof.Safety

/-! ## Ended entries -/

/-- The units without the attempts whose entries satisfy a test. -/
def Units.without (u : Units) (test : Entry → Bool) : Units :=
  { a := u.a.filter fun a => !test a.entry, b := u.b.filter fun a => !test a.entry }

theorem abortUnit_units (s : State) (u : UnitName) (test : Entry → Bool) (o : RouteOutcome) :
    (s.abortUnit u test o).units = s.units.set u ((s.units.get u).filter fun a => !test a.entry) := by
  unfold State.abortUnit
  split
  · next h =>
    rw [h]
    exact (Units.set_get_none h).symm
  · next a h =>
    rw [h]
    split
    · next ht => simp [Option.filter, ht]
    · next ht =>
      have : s.units.set u (s.units.get u) = s.units := by cases u <;> rfl
      rw [h] at this
      simp [Option.filter, ht, this]

theorem endEntries_units (s : State) (test : Entry → Bool) (o : RouteOutcome) :
    (s.endEntries test o).units = s.units.without test := by
  unfold State.endEntries
  obtain ⟨_, hunits, _⟩ := OutcomesKept.foldl_postFromQueue o (s.queue.entries.filter test)
    (s.withQueue { s.queue with entries := s.queue.entries.filter fun e => !test e })
  rw [abortUnit_units, abortUnit_units, State.endQueued, hunits]
  rfl

theorem entries_without (u : Units) (test : Entry → Bool) :
    (u.without test).entries = u.entries.filter fun e => !test e := by
  obtain ⟨a, b⟩ := u
  simp only [Units.without, Units.entries, List.map_append, List.filter_append]
  refine congrArg₂ _ ?_ ?_
  · cases a with
    | none => rfl
    | some a => cases h : test a.entry <;> simp [Option.filter, h]
  · cases b with
    | none => rfl
    | some b => cases h : test b.entry <;> simp [Option.filter, h]

theorem endEntries_allEntries (s : State) (test : Entry → Bool) (o : RouteOutcome) :
    (s.endEntries test o).allEntries = s.allEntries.filter fun e => !test e := by
  rw [State.allEntries, endEntries_queue, endEntries_units, entries_without, State.allEntries, List.filter_append]

theorem endEntries_all (s : State) (o : RouteOutcome) : (s.endEntries (fun _ => true) o).Vacant := by
  refine ⟨?_, ?_⟩
  · rw [endEntries_queue]
    simp
  · rw [endEntries_units]
    cases s.units with
    | mk a b => cases a <;> cases b <;> rfl

theorem vacant_allEntries {s : State} (h : s.Vacant) : s.allEntries = [] := by
  obtain ⟨hq, hu⟩ := h
  rw [State.allEntries, hq, hu]
  rfl

/-! ## The entry and exit events without the sweep (R146, R150) -/

/-- The state of an entry event before the sweep acts. -/
def State.entered (s : State) (cause : EvacCause) : State :=
  ((((((s.evacTo .active).endEntries (fun e => e.cls == .normal) .evacCancelled).mapSessions
    fun _ ses => ses.toAlert).holdTimers.bumpCore).dueAll).postEvac cause).setAck true

theorem entryEvent_eq (s : State) (cause : EvacCause) : s.entryEvent cause = (s.entered cause).settle := rfl

/-- The state of an exit event before the arbiter acts. -/
def State.exited (s : State) : State :=
  ((((((s.evacTo .inactive).endEntries (fun e => e.cls == .evacuation) .evacEnded).clearDue).mapSessions
    Session.leaveAlert).bumpCore).postEvac .ended).setAck false

theorem exitEvent_eq (s : State) : s.exitEvent = s.exited.settle := rfl

theorem due_of_dueAfterBump {s : State} {n : Fin 48} (h : s.dueAfterBump[n] = true) :
    s.evac.due[n] = true ∨ (s.screens[n]).isSome = true := by
  rw [State.dueAfterBump, mapFin_get, Bool.or_eq_true, Bool.and_eq_true] at h
  exact h.imp id And.left

theorem bumpCore_due {s : State} {n : Fin 48} (h : s.bumpCore.evac.due[n] = true) :
    s.evac.due[n] = true ∨ s.evacActive = true ∧ (s.screens[n]).isSome = true := by
  unfold State.bumpCore at h
  split at h
  · dsimp only at h
    split at h
    · next ha => exact (due_of_dueAfterBump h).imp id fun h => ⟨ha, h⟩
    · exact .inl h
  · exact .inl h

theorem bumpCore_allEntries (s : State) : s.bumpCore.allEntries = s.allEntries := by
  have hmark : ({ a := s.units.a.map Attempt.mark, b := s.units.b.map Attempt.mark } : Units).entries
      = s.units.entries := by
    simp only [Units.entries]
    cases s.units.a <;> cases s.units.b <;> rfl
  unfold State.bumpCore
  split
  · dsimp only
    split
    · exact congrArg (s.queue.entries ++ ·) hmark
    · exact congrArg (s.queue.entries ++ ·) hmark
  · rfl

theorem allEntries_of_changes {l : List Part} {s t : State} (h : Changes l s t) (hq : l.contains .entries = false)
    (hu : l.contains .units = false) : t.allEntries = s.allEntries := by
  have hqueue : t.queue = s.queue := h.same .entries hq
  have hunits : t.units = s.units := h.same .units hu
  rw [State.allEntries, hqueue, hunits, State.allEntries]

theorem dueAll_due {s : State} {n : Fin 48} (h : s.dueAll.evac.due[n] = true) :
    s.evac.due[n] = true ∨ (s.screens[n]).isSome = true := by
  have hget := mapFin_get (fun (n : Fin 48) d => d || (s.screens[n]).isSome) s.evac.due n
  rw [← Bool.or_eq_true]
  exact hget.symm.trans h

/-- What an entry event has done as the sweep begins. -/
theorem entered_frame (s : State) (cause : EvacCause) : (s.entered cause).map.mode = s.map.mode
    ∧ (s.entered cause).evac.state = .active ∧ (s.entered cause).evac.ack = true
    ∧ (∀ n : Fin 48, (s.entered cause).evac.due[n] = true → s.evac.due[n] = true ∨ (s.screens[n]).isSome = true)
    ∧ (∀ n : Fin 48, ((s.entered cause).screens[n]).isSome = (s.screens[n]).isSome)
    ∧ (s.entered cause).allEntries = s.allEntries.filter fun e => !(e.cls == .normal) := by
  have hended := RouteMoves.endEntries (s.evacTo .active) (fun e => e.cls == .normal) .evacCancelled
  have hentries := endEntries_allEntries (s.evacTo .active) (fun e => e.cls == .normal) .evacCancelled
  unfold State.entered
  generalize (s.evacTo .active).endEntries (fun e => e.cls == .normal) .evacCancelled = t at hended hentries
  have h1 := Changes.mapSessions t fun _ ses => ses.toAlert
  generalize t.mapSessions (fun _ ses => ses.toAlert) = t1 at h1
  have h2 := Changes.holdTimers t1
  generalize t1.holdTimers = t2 at h2
  have h3 := Changes.bumpCore t2
  have h3d : ∀ n : Fin 48, t2.bumpCore.evac.due[n] = true → _ := fun n h => bumpCore_due h
  have h3e := bumpCore_allEntries t2
  generalize t2.bumpCore = t3 at h3 h3d h3e
  have h4 := Changes.dueAll t3
  have h4d : ∀ n : Fin 48, t3.dueAll.evac.due[n] = true → _ := fun n h => dueAll_due h
  generalize t3.dueAll = t4 at h4 h4d
  have h5 := Changes.postEvac t4 cause
  generalize t4.postEvac cause = t5 at h5
  have hmode : ∀ {l : List Part} {x y : State}, Changes l x y → l.contains .mode = false → y.map.mode = x.map.mode :=
    fun h hl => h.same .mode hl
  have hstate : ∀ {l : List Part} {x y : State}, Changes l x y → l.contains .evacState = false →
      y.evac.state = x.evac.state := fun h hl => h.same .evacState hl
  have hdue : ∀ {l : List Part} {x y : State}, Changes l x y → l.contains .due = false →
      y.evac.due = x.evac.due := fun h hl => h.same .due hl
  have hsome : ∀ {l : List Part} {x y : State}, Changes l x y → l.contains .decls = false → ∀ n : Fin 48,
      (y.screens[n]).isSome = (x.screens[n]).isSome := fun h hl => isSome_of_decls (h.same .decls hl)
  have hsome0 : ∀ n : Fin 48, (t.screens[n]).isSome = (s.screens[n]).isSome := fun n =>
    isSome_of_decls (s := s.evacTo .active) (funext hended.keeps.decls) n
  have hsome3 : ∀ n : Fin 48, (t3.screens[n]).isSome = (s.screens[n]).isSome := fun n =>
    (hsome h3 rfl n).trans ((hsome h2 rfl n).trans ((hsome h1 rfl n).trans (hsome0 n)))
  refine ⟨?_, ?_, rfl, fun n hn => ?_, fun n => ?_, ?_⟩
  · show t5.map.mode = s.map.mode
    rw [hmode h5 rfl, hmode h4 rfl, hmode h3 rfl, hmode h2 rfl, hmode h1 rfl, hended.keeps.map]
    rfl
  · show t5.evac.state = .active
    rw [hstate h5 rfl, hstate h4 rfl, hstate h3 rfl, hstate h2 rfl, hstate h1 rfl, hended.keeps.evacState]
    rfl
  · have hn4 : t4.evac.due[n] = true := hdue h5 rfl ▸ hn
    rcases h4d n hn4 with hn | hn
    · rcases h3d n hn with hn | ⟨_, hn⟩
      · exact .inl (hended.due n (hdue h1 rfl ▸ hdue h2 rfl ▸ hn))
      · exact .inr ((hsome3 n).symm.trans ((hsome h3 rfl n).trans hn))
    · exact .inr ((hsome3 n).symm.trans hn)
  · exact (hsome h5 rfl n).trans ((hsome h4 rfl n).trans (hsome3 n))
  · show t5.allEntries = _
    rw [allEntries_of_changes h5 rfl rfl, allEntries_of_changes h4 rfl rfl, h3e, allEntries_of_changes h2 rfl rfl,
      allEntries_of_changes h1 rfl rfl, hentries]
    rfl

/-- What an exit event has done as the arbiter begins. -/
theorem exited_frame (s : State) : s.exited.map.mode = s.map.mode
    ∧ s.exited.evac.state = .inactive ∧ s.exited.evac.ack = false
    ∧ (∀ n : Fin 48, s.exited.evac.due[n] = false)
    ∧ (∀ n : Fin 48, (s.exited.screens[n]).isSome = (s.screens[n]).isSome)
    ∧ s.exited.allEntries = s.allEntries.filter fun e => !(e.cls == .evacuation) := by
  have hended := RouteMoves.endEntries (s.evacTo .inactive) (fun e => e.cls == .evacuation) .evacEnded
  have hentries := endEntries_allEntries (s.evacTo .inactive) (fun e => e.cls == .evacuation) .evacEnded
  unfold State.exited
  generalize (s.evacTo .inactive).endEntries (fun e => e.cls == .evacuation) .evacEnded = t at hended hentries
  have h1 := Changes.clearDue t
  have hcleared : ∀ n : Fin 48, t.clearDue.evac.due[n] = false := fun n => Vector.getElem_replicate ..
  generalize t.clearDue = t1 at h1 hcleared
  have h2 := Changes.mapSessions t1 Session.leaveAlert
  generalize t1.mapSessions Session.leaveAlert = t2 at h2
  have h3 := Changes.bumpCore t2
  have h3d : ∀ n : Fin 48, t2.bumpCore.evac.due[n] = true → _ := fun n h => bumpCore_due h
  have h3e := bumpCore_allEntries t2
  generalize t2.bumpCore = t3 at h3 h3d h3e
  have h4 := Changes.postEvac t3 .ended
  generalize t3.postEvac .ended = t4 at h4
  have hmode : ∀ {l : List Part} {x y : State}, Changes l x y → l.contains .mode = false → y.map.mode = x.map.mode :=
    fun h hl => h.same .mode hl
  have hstate : ∀ {l : List Part} {x y : State}, Changes l x y → l.contains .evacState = false →
      y.evac.state = x.evac.state := fun h hl => h.same .evacState hl
  have hdue : ∀ {l : List Part} {x y : State}, Changes l x y → l.contains .due = false →
      y.evac.due = x.evac.due := fun h hl => h.same .due hl
  have hsome : ∀ {l : List Part} {x y : State}, Changes l x y → l.contains .decls = false → ∀ n : Fin 48,
      (y.screens[n]).isSome = (x.screens[n]).isSome := fun h hl => isSome_of_decls (h.same .decls hl)
  have hstate2 : t2.evac.state = .inactive := by
    rw [hstate h2 rfl, hstate h1 rfl, hended.keeps.evacState]
    rfl
  refine ⟨?_, ?_, rfl, fun n => ?_, fun n => ?_, ?_⟩
  · show t4.map.mode = s.map.mode
    rw [hmode h4 rfl, hmode h3 rfl, hmode h2 rfl, hmode h1 rfl, hended.keeps.map]
    rfl
  · show t4.evac.state = .inactive
    rw [hstate h4 rfl, hstate h3 rfl, hstate2]
  · show t4.evac.due[n] = false
    rw [hdue h4 rfl]
    cases hn : t3.evac.due[n] with
    | false => rfl
    | true =>
      rcases h3d n hn with hn | ⟨ha, _⟩
      · rw [hdue h2 rfl, hcleared] at hn
        cases hn
      · rw [State.evacActive, hstate2] at ha
        cases ha
  · refine (hsome h4 rfl n).trans ((hsome h3 rfl n).trans ((hsome h2 rfl n).trans ((hsome h1 rfl n).trans ?_)))
    exact isSome_of_decls (s := s.evacTo .inactive) (funext hended.keeps.decls) n
  · show t4.allEntries = _
    rw [allEntries_of_changes h4 rfl rfl, h3e, allEntries_of_changes h2 rfl rfl, allEntries_of_changes h1 rfl rfl, hentries]
    rfl

/-! ## Modes and classes that agree -/

theorem vacant_of_load {s : State} (hs : ModesAgree s) (h : s.map.mode = .load) : s.Vacant := by
  obtain ⟨_, _, _, _, _, hload⟩ := hs
  exact hload h

theorem inactive_of_load {s : State} (hs : ModesAgree s) (h : s.map.mode = .load) : s.evacActive = false := by
  obtain ⟨hactive, _⟩ := hs
  cases ha : s.evacActive with
  | false => rfl
  | true =>
    have := hactive (beq_iff_eq.mp ha)
    rw [h] at this
    cases this

theorem modesAgree_of_moves {s t : State} (h : RouteMoves s t) (hs : ModesAgree s) : ModesAgree t := by
  have hvacant := vacant_of_load hs
  have hinactive := inactive_of_load hs
  obtain ⟨hactive, hpending, hdue, hack, hlow, _⟩ := hs
  have hstate := h.keeps.evacState
  have hmap := h.keeps.map
  refine ⟨fun ha => ?_, fun hp => ?_, fun n hn => ?_, fun ha => ?_, fun hi => ?_, fun hm => ?_⟩
  · rw [hmap]
    exact hactive (hstate ▸ ha)
  · rw [hmap]
    exact hpending (hstate ▸ hp)
  · obtain ⟨ha, hd⟩ := hdue n (h.due n hn)
    exact ⟨hstate.trans ha, (isSome_of_decls (funext h.keeps.decls) n).trans hd⟩
  · exact h.keeps.ack.trans (hack (hstate ▸ ha))
  · exact h.keeps.ack.trans (hlow (hstate ▸ hi))
  · rw [hmap] at hm
    exact h.vacant (hinactive hm) (hvacant hm)

theorem classesAgree_of_moves {s t : State} (h : RouteMoves s t) (hs : ClassesAgree s) : ClassesAgree t := by
  intro e he
  rw [h.keeps.evacState]
  rcases h.entries e he with he | ⟨ha, hc⟩
  · exact hs e he
  · rw [if_pos (beq_iff_eq.mp ha), hc]

/-- The parts that the agreement of modes rests on are left. -/
def leavesModes (l : List Part) : Bool :=
  !l.contains .mode && !l.contains .decls && !l.contains .entries && !l.contains .units && !l.contains .evacState
    && !l.contains .due && !l.contains .ack

theorem modesAgree_of_changes {l : List Part} {s t : State} (h : Changes l s t) (hl : leavesModes l = true)
    (hs : ModesAgree s) : ModesAgree t := by
  simp only [leavesModes, Bool.and_eq_true, Bool.not_eq_true'] at hl
  obtain ⟨⟨⟨⟨⟨⟨hm, hd⟩, hq⟩, hu⟩, he⟩, hdue⟩, ha⟩ := hl
  have hmode : t.map.mode = s.map.mode := h.same .mode hm
  have hqueue : t.queue = s.queue := h.same .entries hq
  have hunits : t.units = s.units := h.same .units hu
  have hstate : t.evac.state = s.evac.state := h.same .evacState he
  have hdues : t.evac.due = s.evac.due := h.same .due hdue
  have hack : t.evac.ack = s.evac.ack := h.same .ack ha
  simpa only [ModesAgree, hmode, hqueue, hunits, hstate, hdues, hack, isSome_of_decls (h.same .decls hd)] using hs

theorem classesAgree_of_changes {l : List Part} {s t : State} (h : Changes l s t) (hq : l.contains .entries = false)
    (hu : l.contains .units = false) (he : l.contains .evacState = false) (hs : ClassesAgree s) : ClassesAgree t := by
  have hentries := allEntries_of_changes h hq hu
  have hstate : t.evac.state = s.evac.state := h.same .evacState he
  intro e hmem
  rw [hstate]
  exact hs e (Eq.subst (motive := (e ∈ ·)) hentries hmem)

theorem modesAgree_bumpCore {s : State} (hs : ModesAgree s) : ModesAgree s.bumpCore := by
  have hb := Changes.bumpCore s
  have hmode : s.bumpCore.map.mode = s.map.mode := hb.same .mode rfl
  have hstate : s.bumpCore.evac.state = s.evac.state := hb.same .evacState rfl
  have hack : s.bumpCore.evac.ack = s.evac.ack := hb.same .ack rfl
  have hsome := isSome_of_decls (hb.same .decls rfl)
  have hload : s.map.mode = .load → s.bumpCore = s := by
    intro hm
    unfold State.bumpCore
    refine if_neg fun hi => ?_
    rw [State.inService, hm] at hi
    cases hi
  obtain ⟨hactive, hpending, hdue, hhigh, hlow, hvacant⟩ := hs
  refine ⟨fun ha => hmode.trans (hactive (hstate ▸ ha)), fun hp => hmode.trans (hpending (hstate ▸ hp)), fun n hn => ?_,
    fun ha => hack.trans (hhigh (hstate ▸ ha)), fun hi => hack.trans (hlow (hstate ▸ hi)), fun hm => ?_⟩
  · rw [hstate, hsome]
    rcases bumpCore_due hn with hn | ⟨ha, hd⟩
    · exact hdue n hn
    · exact ⟨beq_iff_eq.mp ha, hd⟩
  · rw [hmode] at hm
    rw [hload hm]
    exact hvacant hm

theorem modesAgree_bump {s : State} (hs : ModesAgree s) : ModesAgree s.bump := by
  unfold State.bump
  split
  · exact modesAgree_of_moves (.settle _) (modesAgree_bumpCore hs)
  · exact modesAgree_bumpCore hs

theorem classesAgree_bumpCore {s : State} (hs : ClassesAgree s) : ClassesAgree s.bumpCore := by
  have hstate : s.bumpCore.evac.state = s.evac.state := (Changes.bumpCore s).same .evacState rfl
  intro e he
  rw [hstate]
  exact hs e (Eq.subst (motive := (e ∈ ·)) (bumpCore_allEntries s) he)

theorem classesAgree_bump {s : State} (hs : ClassesAgree s) : ClassesAgree s.bump := by
  unfold State.bump
  split
  · exact classesAgree_of_moves (.settle _) (classesAgree_bumpCore hs)
  · exact classesAgree_bumpCore hs

theorem modesAgree_act {s t : State} (h : Act s t) (hs : ModesAgree s) : ModesAgree t := by
  cases h with
  | aside h => simpa only [ModesAgree, h.mode, h.queue, h.units, h.evacState, h.due, h.ack, h.screens] using hs
  | post => exact modesAgree_of_moves (.post ..) hs
  | bump => exact modesAgree_bump hs
  | countIdle => exact modesAgree_of_changes (Changes.countIdle s) rfl hs
  | clearFailures => exact modesAgree_of_changes (Changes.withFailures ..) rfl hs

theorem classesAgree_act {s t : State} (h : Act s t) (hs : ClassesAgree s) : ClassesAgree t := by
  cases h with
  | aside h => simpa only [ClassesAgree, h.queue, h.units, h.evacState] using hs
  | post => exact classesAgree_of_moves (.post ..) hs
  | bump => exact classesAgree_bump hs
  | countIdle => exact classesAgree_of_changes (Changes.countIdle s) rfl rfl rfl hs
  | clearFailures => exact hs

/-! ## The events of evacuation and service -/

/-- Where nothing is ACTIVE no flag is due. -/
theorem due_of_inactive {s : State} (hs : ModesAgree s) (h : s.evac.state ≠ .active) (n : Fin 48) :
    s.evac.due[n] = false := by
  obtain ⟨_, _, hdue, _⟩ := hs
  cases hn : s.evac.due[n] with
  | false => rfl
  | true => exact absurd (hdue n hn).1 h

theorem modesAgree_entered {s : State} (hm : s.map.mode = .service)
    (hdue : ∀ n : Fin 48, s.evac.due[n] = true → (s.screens[n]).isSome = true) (c : EvacCause) :
    ModesAgree (s.entered c) := by
  obtain ⟨hmode, hstate, hack, hflags, hsome, _⟩ := entered_frame s c
  refine ⟨fun _ => hmode.trans hm, fun h => ?_, fun n hn => ⟨hstate, (hsome n).trans ((hflags n hn).elim (hdue n) id)⟩,
    fun _ => hack, fun h => ?_, fun h => ?_⟩
  · rw [hstate] at h
    cases h
  · rw [hstate] at h
    cases h
  · rw [hmode, hm] at h
    cases h

theorem modesAgree_entryEvent {s : State} (hm : s.map.mode = .service)
    (hdue : ∀ n : Fin 48, s.evac.due[n] = true → (s.screens[n]).isSome = true) (c : EvacCause) :
    ModesAgree (s.entryEvent c) := by
  rw [entryEvent_eq]
  exact modesAgree_of_moves (.settle _) (modesAgree_entered hm hdue c)

theorem classesAgree_entryEvent {s : State} (hs : ∀ e ∈ s.allEntries, e.cls = .normal) (c : EvacCause) :
    ClassesAgree (s.entryEvent c) := by
  obtain ⟨_, _, _, _, _, hentries⟩ := entered_frame s c
  rw [entryEvent_eq]
  refine classesAgree_of_moves (.settle _) fun e he => ?_
  have he : e ∈ (s.entered c).allEntries := he
  rw [hentries, List.mem_filter] at he
  rw [hs e he.1] at he
  simp at he

theorem modesAgree_exitEvent (s : State) (hm : s.map.mode = .service) : ModesAgree s.exitEvent := by
  obtain ⟨hmode, hstate, hack, hflags, _⟩ := exited_frame s
  rw [exitEvent_eq]
  refine modesAgree_of_moves (.settle _) ⟨fun h => ?_, fun h => ?_, fun n hn => ?_, fun h => ?_, fun _ => hack, fun h => ?_⟩
  · rw [hstate] at h
    cases h
  · rw [hstate] at h
    cases h
  · rw [hflags n] at hn
    cases hn
  · rw [hstate] at h
    cases h
  · rw [hmode, hm] at h
    cases h

theorem classesAgree_exitEvent {s : State} (hs : ∀ e ∈ s.allEntries, e.cls = .evacuation) :
    ClassesAgree s.exitEvent := by
  obtain ⟨_, _, _, _, _, hentries⟩ := exited_frame s
  rw [exitEvent_eq]
  refine classesAgree_of_moves (.settle _) fun e he => ?_
  have he : e ∈ s.exited.allEntries := he
  rw [hentries, List.mem_filter] at he
  rw [hs e he.1] at he
  simp at he

theorem modesAgree_raiseEvac {s : State} (hs : ModesAgree s) (c : EvacCause) : ModesAgree (s.raiseEvac c) := by
  unfold State.raiseEvac
  split
  · next hstate =>
    have hflags := due_of_inactive hs (by rw [hstate]; nofun)
    split
    · next hm =>
      refine modesAgree_entryEvent (beq_iff_eq.mp hm) (fun n hn => ?_) c
      rw [hflags n] at hn
      cases hn
    · next hm =>
      have hload : s.map.mode = .load := by
        cases h : s.map.mode with
        | load => rfl
        | service => exact absurd (beq_iff_eq.mpr h) hm
      have hvacant := vacant_of_load hs hload
      refine modesAgree_of_moves (.post ..) ⟨nofun, fun _ => hload, fun n hn => ?_, nofun, nofun, fun _ => hvacant⟩
      rw [show (s.evacTo .pending).evac.due = s.evac.due from rfl, hflags n] at hn
      cases hn
  all_goals exact hs

theorem classesAgree_raiseEvac {s : State} (hs : ClassesAgree s) (c : EvacCause) :
    ClassesAgree (s.raiseEvac c) := by
  unfold State.raiseEvac
  split
  · next hstate =>
    split
    · refine classesAgree_entryEvent (fun e he => ?_) c
      have := hs e he
      rwa [if_neg (by rw [hstate]; nofun)] at this
    · refine classesAgree_of_moves (.post ..) fun e he => ?_
      have := hs e he
      rw [if_neg (by rw [hstate]; nofun)] at this
      exact this
  all_goals exact hs

theorem modesAgree_endPending {s : State} (hs : ModesAgree s) (h : s.evac.state = .pending) :
    ModesAgree s.endPending := by
  obtain ⟨_, hpending, _, _, _, hvacant⟩ := hs
  refine modesAgree_of_moves (.post ..) ⟨nofun, nofun, fun n hn => ?_, nofun, fun _ => rfl, fun _ => hvacant (hpending h)⟩
  have : (((s.evacTo .inactive).clearDue).setAck false).evac.due[n] = false := Vector.getElem_replicate ..
  rw [this] at hn
  cases hn

theorem modesAgree_evacEnd {s : State} (hs : ModesAgree s) : ModesAgree (evacEndEffect s).1 := by
  refine checked_preserves hs fun _ => ?_
  dsimp only
  split
  · next h => exact modesAgree_exitEvent s (hs.1 h)
  · next h => exact modesAgree_endPending hs h
  · exact hs

theorem classesAgree_evacEnd {s : State} (hs : ClassesAgree s) :
    ClassesAgree (evacEndEffect s).1 := by
  refine checked_preserves hs fun _ => ?_
  dsimp only
  split
  · next h =>
    refine classesAgree_exitEvent fun e he => ?_
    have := hs e he
    rwa [if_pos h] at this
  · next h =>
    refine classesAgree_of_moves (.post ..) fun e he => ?_
    have := hs e he
    rw [if_neg (by rw [h]; nofun)] at this
    exact this
  · exact hs

/-- The state in which START leaves a map without a PENDING evacuation. -/
theorem modesAgree_enterService {s : State} (hs : ModesAgree s) (h : s.evac.state ≠ .pending) :
    ModesAgree s.enterService := by
  have hflags := Changes.mapSessions (s.withMap { s.map with mode := .service, generation := 0 })
    fun d ses => ses.toIdle d
  have hsome : ∀ n : Fin 48, (s.enterService.screens[n]).isSome = (s.screens[n]).isSome :=
    isSome_of_decls (s := s.withMap { s.map with mode := .service, generation := 0 }) (hflags.same .decls rfl)
  obtain ⟨_, _, hdue, hhigh, hlow, _⟩ := hs
  refine ⟨fun _ => rfl, fun hp => absurd hp h, fun n hn => ?_, hhigh, hlow, nofun⟩
  rw [hsome]
  exact hdue n hn

theorem modesAgree_start {s : State} (hs : ModesAgree s) : ModesAgree (startEffect s).1 := by
  refine checked_preserves hs fun _ => ?_
  split
  · exact hs
  · dsimp only
    split
    · next h =>
      refine modesAgree_entryEvent rfl (fun n hn => ?_) .start
      have hfalse : s.enterService.evac.due[n] = false := due_of_inactive hs (by rw [h]; nofun) n
      rw [hfalse] at hn
      cases hn
    · next h => exact modesAgree_enterService hs h

theorem classesAgree_start {s : State} (hm : ModesAgree s) (hs : ClassesAgree s) : ClassesAgree (startEffect s).1 := by
  refine checked_preserves hs fun hpass => ?_
  split
  · exact hs
  · have hload : s.map.mode = .load := beq_iff_eq.mp (hpass _ List.mem_cons_self)
    have hnone := vacant_allEntries (vacant_of_load hm hload)
    dsimp only
    split
    · refine classesAgree_entryEvent (fun e he => ?_) .start
      have he : e ∈ s.allEntries := he
      rw [hnone] at he
      cases he
    · exact hs

theorem leaveService_vacant (s : State) : s.leaveService.Vacant := by
  have hended := endEntries_all s .serviceStopped
  unfold State.leaveService
  generalize s.endEntries (fun _ => true) .serviceStopped = u at hended
  have hstop := Changes.stopEvac_parts ((((u.withMap { u.map with mode := .load }).mapSessions
    fun d ses => ses.toDormant d)).withClock { u.clock with timers := mapFin (fun _ t => t.stop) u.clock.timers })
  obtain ⟨hq, hu⟩ := hended
  exact ⟨(congrArg RouteQueue.entries (hstop.same .entries rfl)).trans hq, (hstop.same .units rfl).trans hu⟩

theorem modesAgree_stopEvac {s : State} (hm : s.map.mode = .load) (hv : s.Vacant)
    (hstate : s.evac.state = .active ∨ s.evac.state = .inactive ∧ s.evac.ack = false)
    (hdue : ∀ n : Fin 48, s.evac.due[n] = true → s.evac.state = .active) : ModesAgree s.stopEvac := by
  unfold State.stopEvac
  split
  · refine modesAgree_of_moves (.post ..) ⟨nofun, fun _ => hm, fun n hn => ?_, nofun, nofun, fun _ => hv⟩
    have : ((s.evacTo .pending).clearDue).evac.due[n] = false := Vector.getElem_replicate ..
    rw [this] at hn
    cases hn
  · next hactive =>
    have hne : s.evac.state ≠ .active := fun h => hactive (beq_iff_eq.mpr h)
    obtain ⟨hi, hack⟩ := hstate.resolve_left hne
    refine ⟨fun h => absurd h hne, fun h => ?_, fun n hn => absurd (hdue n hn) hne, fun h => absurd h hne, fun _ => hack,
      fun _ => hv⟩
    rw [hi] at h
    cases h

theorem modesAgree_leaveService {s : State} (hs : ModesAgree s) (hm : s.map.mode = .service) :
    ModesAgree s.leaveService := by
  have hended := endEntries_all s .serviceStopped
  have hmoves := RouteMoves.endEntries s (fun _ => true) .serviceStopped
  obtain ⟨_, hpending, hdue, _, hlow, _⟩ := hs
  unfold State.leaveService
  generalize s.endEntries (fun _ => true) .serviceStopped = u at hended hmoves
  have hstate := hmoves.keeps.evacState
  refine modesAgree_stopEvac rfl hended ?_ fun n hn => hstate.trans (hdue n (hmoves.due n hn)).1
  show u.evac.state = .active ∨ u.evac.state = .inactive ∧ u.evac.ack = false
  rw [hstate, hmoves.keeps.ack]
  cases h : s.evac.state with
  | active => exact .inl rfl
  | inactive => exact .inr ⟨rfl, hlow h⟩
  | pending =>
    have := hpending h
    rw [hm] at this
    cases this

/-! ## Requests of the session block -/

theorem modesAgree_modifySession {s : State} (hs : ModesAgree s) (n : Fin 48) (f : ScreenDecl → Session → Session) :
    ModesAgree (s.modifySession n f) := modesAgree_of_changes (Changes.modifySession ..) rfl hs

theorem classesAgree_modifySession {s : State} (hs : ClassesAgree s) (n : Fin 48)
    (f : ScreenDecl → Session → Session) : ClassesAgree (s.modifySession n f) := hs

theorem modesAgree_withdraw {s : State} (hs : ModesAgree s) (n : Fin 48) (x : Session) :
    ModesAgree (s.withdraw n x) := by
  unfold State.withdraw
  split
  · exact modesAgree_of_moves (.endScreenEntry ..) (modesAgree_modifySession hs ..)
  · exact hs

theorem classesAgree_withdraw {s : State} (hs : ClassesAgree s) (n : Fin 48) (x : Session) :
    ClassesAgree (s.withdraw n x) := by
  unfold State.withdraw
  split
  · exact classesAgree_of_moves (.endScreenEntry ..) (classesAgree_modifySession hs _ _)
  · exact hs

/-- What a session request that is taken does: the withdrawal where its verb withdraws, then the verb's change. -/
theorem takeRequest_fst (s : State) (n : Fin 48) (c : Screen) (b : Bool) (x : ReplyExtras) (f : Session → Session) :
    (takeRequest s n c b x f).1
      = (if b then s.withdraw n c.session else s).modifySession n fun d ses => (f ses).restartIdle d := by
  unfold takeRequest
  dsimp only
  split <;> rfl

theorem modesAgree_takeRequest {s : State} (hs : ModesAgree s) (n : Fin 48) (c : Screen) (b : Bool) (x : ReplyExtras)
    (f : Session → Session) : ModesAgree (takeRequest s n c b x f).1 := by
  rw [takeRequest_fst]
  refine modesAgree_modifySession ?_ _ _
  split
  · exact modesAgree_withdraw hs n _
  · exact hs

theorem classesAgree_takeRequest {s : State} (hs : ClassesAgree s) (n : Fin 48) (c : Screen) (b : Bool) (x : ReplyExtras)
    (f : Session → Session) : ClassesAgree (takeRequest s n c b x f).1 := by
  rw [takeRequest_fst]
  refine classesAgree_modifySession ?_ _ _
  split
  · exact classesAgree_withdraw hs n _
  · exact hs

/-! ## ROUTE -/

theorem supersede_moves (s : State) (o : Origin) : RouteMoves s (s.supersede o) := by
  unfold State.supersede
  split
  · exact .endScreenEntry ..
  · exact .refl s

/-- An entry joins in SERVICE. -/
theorem modesAgree_accept {s : State} (hs : ModesAgree s) (hm : s.map.mode = .service) (o : Origin) (d : Dest)
    (p : Profile) (c : EntryClass) : ModesAgree (s.accept o d p c) := by
  obtain ⟨hactive, hpending, hdue, hhigh, hlow, _⟩ := hs
  exact ⟨hactive, hpending, hdue, hhigh, hlow, fun h => by
    rw [show (s.accept o d p c).map = s.map from rfl, hm] at h
    cases h⟩

theorem classesAgree_accept {s : State} (hs : ClassesAgree s) (ha : s.evacActive = false) (o : Origin) (d : Dest)
    (p : Profile) : ClassesAgree (s.accept o d p .normal) := by
  intro e he
  have hsplit : e ∈ joinQueue s.queue.entries ⟨s.takeId, o, d, p, .normal⟩ ∨ e ∈ s.units.entries :=
    List.mem_append.mp he
  rcases hsplit with he | he
  · rcases List.mem_cons.mp ((joinQueue_perm ..).mem_iff.mp he) with rfl | he
    · refine (if_neg fun h => ?_).symm
      have h : s.evac.state = .active := h
      rw [State.evacActive, h] at ha
      cases ha
    · exact hs e (List.mem_append_left _ he)
  · exact hs e (List.mem_append_right _ he)

/-- The checks of R37 that the agreement of modes uses. -/
theorem routeChecks_service {a : RouteArgs} {s : State} (h : ∀ q ∈ routeChecks a s, q.1 = true) :
    s.map.mode = .service ∧ s.evacActive = false := by
  have hm : s.inService = true := h (s.inService, .no .wrongMode) (by simp [routeChecks])
  have ha : (!s.evacActive) = true := h (!s.evacActive, .no .evacActive) (by simp [routeChecks])
  exact ⟨beq_iff_eq.mp hm, by simpa using ha⟩

theorem modesAgree_route {s : State} (hs : ModesAgree s) (a : RouteArgs) : ModesAgree (routeEffect a s).1 := by
  refine checked_preserves hs fun hpass => ?_
  obtain ⟨hm, _⟩ := routeChecks_service hpass
  split
  · next o d _ _ =>
    have hmoves := supersede_moves s o
    have hcount := Changes.countDemand (s.supersede o) d
    have hcounted := modesAgree_of_changes hcount rfl (modesAgree_of_moves hmoves hs)
    have hm' : ((s.supersede o).countDemand d).map.mode = .service := by
      rw [show ((s.supersede o).countDemand d).map.mode = (s.supersede o).map.mode from hcount.same .mode rfl,
        hmoves.keeps.map, hm]
    exact modesAgree_of_moves (.settle _) (modesAgree_of_changes (Changes.handId ..) rfl
      (modesAgree_accept hcounted hm' o d _ .normal))
  · exact hs

theorem classesAgree_route {s : State} (hs : ClassesAgree s) (a : RouteArgs) : ClassesAgree (routeEffect a s).1 := by
  refine checked_preserves hs fun hpass => ?_
  obtain ⟨_, ha⟩ := routeChecks_service hpass
  split
  · next o d _ _ =>
    have hmoves := supersede_moves s o
    have hcount := Changes.countDemand (s.supersede o) d
    have hcounted := classesAgree_of_changes hcount rfl rfl rfl (classesAgree_of_moves hmoves hs)
    have ha' : ((s.supersede o).countDemand d).evacActive = false := by
      rw [State.evacActive, show ((s.supersede o).countDemand d).evac.state = (s.supersede o).evac.state from
        hcount.same .evacState rfl, hmoves.keeps.evacState]
      exact ha
    exact classesAgree_of_moves (.settle _) (classesAgree_of_changes (Changes.handId ..) rfl rfl rfl
      (classesAgree_accept hcounted ha' o d _))
  · exact hs

/-! ## Every step -/

/-- In LOAD the tables of screens can change. -/
theorem modesAgree_screens {s t : State} (hs : ModesAgree s) (hm : s.map.mode = .load) (hmode : t.map.mode = .load)
    (hq : t.queue = s.queue) (hu : t.units = s.units) (he : t.evac = s.evac) : ModesAgree t := by
  have hinactive := inactive_of_load hs hm
  have hflags := due_of_inactive hs fun h => by rw [State.evacActive, h] at hinactive; cases hinactive
  obtain ⟨hactive, _, _, hhigh, hlow, hvacant⟩ := hs
  unfold ModesAgree
  rw [hq, hu, he]
  refine ⟨fun h => ?_, fun _ => hmode, fun n hn => ?_, hhigh, hlow, fun _ => hvacant hm⟩
  · rw [State.evacActive, h] at hinactive
    cases hinactive
  · rw [hflags n] at hn
    cases hn

theorem modesAgree_move (c : Instr) {s : State} (hs : ModesAgree s) : ModesAgree (moveOf c s) := by
  have hacts : ∀ {c : Instr}, movesRoutes c = false → ModesAgree (moveOf c s) := fun h =>
    (moveOf_acts _ s h).keeps (p := ModesAgree) modesAgree_act hs
  cases c with
  | hardReset =>
    refine ⟨nofun, nofun, fun n hn => ?_, nofun, fun _ => rfl, fun _ => ⟨rfl, rfl⟩⟩
    have : (moveOf .hardReset s).evac.due[n] = false := Vector.getElem_replicate ..
    rw [this] at hn
    cases hn
  | fetch =>
    refine modesAgree_of_moves (.settle _) ?_
    obtain ⟨hactive, hpending, hdue, hhigh, hlow, hvacant⟩ := hs
    exact ⟨hactive, hpending, hdue, hhigh, hlow, hvacant⟩
  | start => exact modesAgree_start hs
  | stop =>
    exact checked_preserves hs fun hpass =>
      modesAgree_leaveService hs (beq_iff_eq.mp (hpass (s.inService, .no .wrongMode) List.mem_cons_self))
  | mapClear =>
    exact checked_preserves hs fun hpass =>
      have hm := beq_iff_eq.mp (hpass _ List.mem_cons_self)
      modesAgree_screens hs hm hm rfl rfl rfl
  | screenDeclare =>
    refine checked_preserves hs fun hpass => ?_
    have hm := beq_iff_eq.mp (hpass _ List.mem_cons_self)
    split
    · exact modesAgree_screens hs hm hm rfl rfl rfl
    · exact hs
  | screenUndeclare =>
    refine checked_preserves hs fun hpass => ?_
    have hm := beq_iff_eq.mp (hpass _ List.mem_cons_self)
    split
    · exact hs
    · split
      · exact modesAgree_screens hs hm hm rfl rfl rfl
      · exact hs
  | route _ a => exact modesAgree_route hs a
  | routeCancel =>
    refine checked_preserves hs fun _ => ?_
    split
    · exact hs
    · split
      · exact hs
      · exact modesAgree_of_moves ((RouteMoves.endEntries ..).trans (.settle _)) hs
  | completionEvent u => exact modesAgree_of_moves (.complete s u) hs
  | nav _ n a =>
    refine sessionRequest_preserves hs fun k c _ _ _ => ?_
    split
    · exact hs
    · exact modesAgree_takeRequest hs ..
  | back | backRestore | home | prefs | tap =>
    exact sessionRequest_preserves hs fun _ _ _ _ _ => modesAgree_takeRequest hs ..
  | idleTimerExpiry n =>
    simp only [moveOf, State.idleExpires]
    split
    · exact hs
    · split
      · exact modesAgree_modifySession (modesAgree_withdraw hs n _) _ _
      · exact hs
  | evacInRise =>
    simp only [moveOf]
    split
    · exact modesAgree_raiseEvac (modesAgree_of_changes (Changes.evacLevel ..) rfl hs) .line
    · exact hs
  | evac => exact modesAgree_raiseEvac hs .host
  | evacEnd => exact modesAgree_evacEnd hs
  | _ => exact hacts rfl

theorem classesAgree_move (c : Instr) {s : State} (hm : ModesAgree s) (hs : ClassesAgree s) :
    ClassesAgree (moveOf c s) := by
  have hacts : ∀ {c : Instr}, movesRoutes c = false → ClassesAgree (moveOf c s) := fun h =>
    (moveOf_acts _ s h).keeps (p := ClassesAgree) classesAgree_act hs
  have huntouched : ∀ {c : Instr}, c ≠ .hardReset → (touches c).contains .entries = false →
      (touches c).contains .units = false → (touches c).contains .evacState = false → ClassesAgree (moveOf c s) :=
    fun hc hq hu he => classesAgree_of_changes (moveOf_changes _ s hc) hq hu he hs
  cases c with
  | hardReset => exact nofun
  | fetch => exact classesAgree_of_moves (.settle _) hs
  | start => exact classesAgree_start hm hs
  | stop =>
    refine checked_preserves hs fun _ e he => ?_
    have he : e ∈ s.leaveService.allEntries := he
    rw [vacant_allEntries (leaveService_vacant s)] at he
    cases he
  | mapClear | screenDeclare | screenUndeclare => exact huntouched nofun rfl rfl rfl
  | route _ a => exact classesAgree_route hs a
  | routeCancel =>
    refine checked_preserves hs fun _ => ?_
    split
    · exact hs
    · split
      · exact hs
      · exact classesAgree_of_moves ((RouteMoves.endEntries ..).trans (.settle _)) hs
  | completionEvent u => exact classesAgree_of_moves (.complete s u) hs
  | nav _ n a =>
    refine sessionRequest_preserves hs fun k c _ _ _ => ?_
    split
    · exact hs
    · exact classesAgree_takeRequest hs _ _ _ _ _
  | back | backRestore | home | prefs | tap =>
    exact sessionRequest_preserves hs fun _ _ _ _ _ => classesAgree_takeRequest hs _ _ _ _ _
  | idleTimerExpiry n =>
    simp only [moveOf, State.idleExpires]
    split
    · exact hs
    · split
      · exact classesAgree_modifySession (classesAgree_withdraw hs n _) _ _
      · exact hs
  | evacInRise =>
    simp only [moveOf]
    split
    · exact classesAgree_raiseEvac (s := s.withEvac { s.evac with debounced := true }) hs .line
    · exact hs
  | evac => exact classesAgree_raiseEvac hs .host
  | evacEnd => exact classesAgree_evacEnd hs
  | _ => exact hacts rfl

/-- Settles O14: the entry event ends every NORMAL entry and the exit event every EVACUATION entry, ROUTE joins NORMAL ones
outside evacuation and the sweep EVACUATION ones within it. -/
theorem everyStepKeepsModesAgreeing : Obligations.EveryStepKeepsModesAgreeing :=
  keptByEveryStep_of_move (fun _ _ h => h)
    (fun s c h => ⟨modesAgree_of_changes (Changes.taken s c) rfl h.1, h.2⟩)
    (fun s tag a h => ⟨modesAgree_of_changes (Changes.reply s tag a) rfl h.1, h.2⟩)
    fun c _ h => ⟨modesAgree_move c h.1, classesAgree_move c h.1 h.2⟩

/-! ## The arbiter at rest -/

theorem quiet_modifySession {s : State} (hs : Quiet s) (n : Fin 48) (f : ScreenDecl → Session → Session) :
    Quiet (s.modifySession n f) := quiet_of_changes (Changes.modifySession ..) rfl rfl rfl rfl rfl hs

theorem quiet_endScreenEntry {s : State} (hs : Quiet s) (n : Fin 48) (o : RouteOutcome) :
    Quiet (s.endScreenEntry n o) := by
  unfold State.endScreenEntry
  split
  · exact quiet_settle _
  · exact hs

theorem quiet_withdraw {s : State} (hs : Quiet s) (n : Fin 48) (x : Session) : Quiet (s.withdraw n x) := by
  unfold State.withdraw
  split
  · exact quiet_endScreenEntry (quiet_modifySession hs ..) ..
  · exact hs

theorem quiet_takeRequest {s : State} (hs : Quiet s) (n : Fin 48) (c : Screen) (b : Bool) (x : ReplyExtras)
    (f : Session → Session) : Quiet (takeRequest s n c b x f).1 := by
  rw [takeRequest_fst]
  refine quiet_modifySession ?_ ..
  split
  · exact quiet_withdraw hs n _
  · exact hs

theorem quiet_of_load {s : State} (hs : ModesAgree s) (hm : s.map.mode = .load) : Quiet s :=
  quiet_of_empty (vacant_of_load hs hm).1 (inactive_of_load hs hm)

theorem quiet_raiseEvac {s : State} (hm : ModesAgree s) (hs : Quiet s) (c : EvacCause) : Quiet (s.raiseEvac c) := by
  have hagree := modesAgree_raiseEvac hm c
  unfold State.raiseEvac at hagree ⊢
  split
  · next hstate =>
    rw [hstate] at hagree
    split
    · exact quiet_settle _
    · next hservice =>
      dsimp only at hagree
      rw [if_neg hservice] at hagree
      refine quiet_of_load hagree ?_
      cases h : s.map.mode with
      | load => rw [← h]; rfl
      | service => exact absurd (beq_iff_eq.mpr h) hservice
  all_goals exact hs

theorem quiet_move (c : Instr) {s : State} (hm : ModesAgree s) (hs : Quiet s) : Quiet (moveOf c s) := by
  have hacts : ∀ {c : Instr}, movesRoutes c = false → Quiet (moveOf c s) := fun h =>
    (moveOf_acts _ s h).keeps (p := Quiet) quiet_act hs
  have hload : ∀ {c : Instr}, (moveOf c s).map.mode = .load → Quiet (moveOf c s) := fun h =>
    quiet_of_load (modesAgree_move _ hm) h
  have hkept : ∀ {c : Instr}, c ≠ .hardReset → (touches c).contains .mode = false → s.map.mode = .load →
      (moveOf c s).map.mode = .load := fun hc hl h =>
    (show (moveOf _ s).map.mode = s.map.mode from (moveOf_changes _ s hc).same .mode hl).trans h
  have hscreens : ∀ {c : Instr} {l : List (Bool × Answer)} {take : State → State × Answer}, c ≠ .hardReset →
      (touches c).contains .mode = false → inLoad s ∈ l → moveOf c s = (checked l s take).1 → Quiet (moveOf c s) := by
    intro c l take hc hl hmem he
    by_cases h : s.map.mode = .load
    · exact hload (hkept hc hl h)
    · rw [he]
      exact checked_preserves hs fun hpass => absurd (beq_iff_eq.mp (hpass _ hmem)) h
  cases c with
  | hardReset => exact hload rfl
  | fetch => exact quiet_settle _
  | start =>
    refine checked_preserves hs fun hpass => ?_
    have hl : s.map.mode = .load := beq_iff_eq.mp (hpass _ List.mem_cons_self)
    split
    · exact hs
    · dsimp only
      split
      · exact quiet_settle _
      · have hinactive : s.evacActive = false := inactive_of_load hm hl
        exact quiet_of_empty (vacant_of_load hm hl).1 hinactive
  | stop =>
    refine checked_preserves hs fun hpass => quiet_of_load ?_ (leaveService_mode s)
    exact modesAgree_leaveService hm (beq_iff_eq.mp (hpass (s.inService, .no .wrongMode) List.mem_cons_self))
  | mapClear => exact hscreens nofun rfl List.mem_cons_self rfl
  | screenDeclare => exact hscreens nofun rfl List.mem_cons_self rfl
  | screenUndeclare => exact hscreens nofun rfl List.mem_cons_self rfl
  | route _ a =>
    refine checked_preserves hs fun _ => ?_
    split
    · exact quiet_settle _
    · exact hs
  | routeCancel =>
    refine checked_preserves hs fun _ => ?_
    split
    · exact hs
    · split
      · exact hs
      · exact quiet_settle _
  | completionEvent u =>
    simp only [moveOf, State.complete]
    split
    · exact hs
    · exact quiet_settle _
  | nav _ n a =>
    refine sessionRequest_preserves hs fun k c _ _ _ => ?_
    split
    · exact hs
    · exact quiet_takeRequest hs ..
  | back | backRestore | home | prefs | tap =>
    exact sessionRequest_preserves hs fun _ _ _ _ _ => quiet_takeRequest hs ..
  | idleTimerExpiry n =>
    simp only [moveOf, State.idleExpires]
    split
    · exact hs
    · split
      · exact quiet_modifySession (quiet_withdraw hs n _) ..
      · exact hs
  | evacInRise =>
    simp only [moveOf]
    split
    · exact quiet_raiseEvac (modesAgree_of_changes (Changes.evacLevel ..) rfl hm)
        (quiet_of_changes (Changes.evacLevel ..) rfl rfl rfl rfl rfl hs) .line
    · exact hs
  | evac => exact quiet_raiseEvac hm hs .host
  | evacEnd =>
    refine checked_preserves hs fun _ => ?_
    dsimp only
    split
    · exact quiet_settle _
    · next h => exact quiet_of_load (modesAgree_endPending hm h) (hm.2.1 h)
    · exact hs
  | _ => exact hacts rfl

/-- Settles O7: each act of the arbiter or the sweep uses up room, so that the acts of a step end at rest, and a step with
no act leaves a state at rest as it was. -/
theorem everyStepLeavesTheArbiterQuiet : Obligations.EveryStepLeavesTheArbiterQuiet :=
  keptByEveryStep_of_move (fun s _ h => ⟨h.1, quiet_congr (s := s) rfl rfl rfl rfl h.2⟩)
    (fun s c h => ⟨modesAgree_of_changes (Changes.taken s c) rfl h.1,
      quiet_of_changes (Changes.taken s c) rfl rfl rfl rfl rfl h.2⟩)
    (fun s tag a h => ⟨modesAgree_of_changes (Changes.reply s tag a) rfl h.1,
      quiet_of_changes (Changes.reply s tag a) rfl rfl rfl rfl rfl h.2⟩)
    fun c _ h => ⟨modesAgree_move c h.1, quiet_move c h.1 h.2⟩

end Sys2Proof.Machine

/-! # Proofs: sessions stay as their states say -/

namespace Sys2Proof.Machine

open Sys2Proof.Safety

/-! ## One session (R125 to R139) -/

/-- What a NORMAL outcome makes of a session: nothing, or of one pending on the id a ROUTE page or no more than ACTIVE
(R136). -/
theorem takeOutcome_cases (id : Nat) (o : RouteOutcome) (d : ScreenDecl) (x : Session) :
    x.takeOutcome id o d = x
    ∨ (x.state = .routePending ∧ x.pending = some id
      ∧ (x.takeOutcome id o d
          = ({ x.push (.route id) with state := .routeShown, pending := none, shown := some id } : Session).restartIdle d
        ∨ x.takeOutcome id o d = ({ x with state := .active, pending := none } : Session).restartIdle d)) := by
  unfold Session.takeOutcome
  split
  · next h =>
    obtain ⟨hstate, hpending⟩ := h
    cases o <;> simp [hstate, hpending]
  · exact .inl rfl

/-- What an evacuation result makes of a session: in ALERT its evacuation id, otherwise nothing (R139). -/
theorem takeEvacResult_cases (id : Nat) (o : RouteOutcome) (d : ScreenDecl) (x : Session) :
    x.takeEvacResult id o d = x
    ∨ (x.state = .alert ∧ ∃ e, x.takeEvacResult id o d = { x with evac := e }) := by
  unfold Session.takeEvacResult
  split
  · next h => cases o <;> simp [h]
  · exact .inl rfl

theorem sessionSound_takeOutcome {x : Session} (h : SessionSound x) (id : Nat) (o : RouteOutcome) (d : ScreenDecl) :
    SessionSound (x.takeOutcome id o d) := by
  rcases takeOutcome_cases id o d x with heq | ⟨hstate, hpending, heq | heq⟩
  · rwa [heq]
  · rw [heq]
    simp only [SessionSound, hstate] at h
    simp [SessionSound, Session.restartIdle, Session.push, topIsRoute]
    simpa using h.2.2.2.2.2.1
  · rw [heq]
    simp only [SessionSound, hstate] at h
    simp_all [SessionSound, Session.restartIdle]

theorem sessionSound_takeEvacResult {x : Session} (h : SessionSound x) (id : Nat) (o : RouteOutcome) (d : ScreenDecl) :
    SessionSound (x.takeEvacResult id o d) := by
  rcases takeEvacResult_cases id o d x with heq | ⟨hstate, e, heq⟩
  · rwa [heq]
  · rw [heq]
    simp only [SessionSound, hstate] at h ⊢
    simp_all

/-- Taking outcomes leaves a session sound, and it neither leaves nor enters DORMANT or ALERT. -/
theorem sessionSound_takes {d : ScreenDecl} {x y : Session} (h : Takes d x y) (hx : SessionSound x) : SessionSound y := by
  induction h with
  | refl => exact hx
  | outcome _ id o ih => exact sessionSound_takeOutcome ih ..
  | evac _ id o ih => exact sessionSound_takeEvacResult ih ..

theorem takes_state {d : ScreenDecl} {x y : Session} (h : Takes d x y) {st : SessionState}
    (hst : st = .dormant ∨ st = .alert ∨ st = .idle) : y.state = st ↔ x.state = st := by
  induction h with
  | refl => rfl
  | @outcome y _ id o ih =>
    rw [← ih]
    rcases takeOutcome_cases id o d y with heq | ⟨hstate, _, heq | heq⟩
    · rw [heq]
    all_goals
      rw [heq, hstate]
      rcases hst with rfl | rfl | rfl <;> exact ⟨nofun, nofun⟩
  | @evac y _ id o ih =>
    rw [← ih]
    rcases takeEvacResult_cases id o d y with heq | ⟨_, e, heq⟩ <;> rw [heq]

/-- A session that is pending on nothing and not in ALERT takes no outcome. -/
theorem takes_deaf {d : ScreenDecl} {x y : Session} (h : Takes d x y) (hp : x.pending = none) (ha : x.state ≠ .alert) :
    y = x := by
  induction h with
  | refl => rfl
  | @outcome y _ id o ih =>
    rw [ih]
    rcases takeOutcome_cases id o d x with heq | ⟨_, hpending, _⟩
    · exact heq
    · rw [hp] at hpending
      cases hpending
  | @evac y _ id o ih =>
    rw [ih]
    rcases takeEvacResult_cases id o d x with heq | ⟨hstate, _⟩
    · exact heq
    · exact absurd hstate ha

theorem sessionSound_made (d : ScreenDecl) : SessionSound (Session.made d) := by
  simp [SessionSound, Session.made]

theorem sessionSound_toIdle (d : ScreenDecl) (x : Session) : SessionSound (x.toIdle d) := by
  simp [SessionSound, Session.toIdle, Session.made]

theorem sessionSound_toAlert {x : Session} : SessionSound x.toAlert := by
  simp [SessionSound, Session.toAlert]

theorem sessionSound_countIdle {x : Session} (h : SessionSound x) :
    SessionSound { x with idle := x.idle.map IdleTimer.second } := by
  simpa [SessionSound] using h

theorem sessionSound_routeAccepted {x : Session} (h : SessionSound x) (ha : x.state ≠ .alert) (id : Nat)
    (d : ScreenDecl) : SessionSound (x.routeAccepted id d) := by
  obtain ⟨hlen, _, _, _, _, hevac, _, _⟩ := h
  have hnone : x.evac = none := by
    cases he : x.evac with
    | none => rfl
    | some e => exact absurd (hevac (by rw [he]; rfl)) ha
  simp [SessionSound, Session.routeAccepted, Session.restartIdle, hlen, hnone]

/-! ## A session with its route withdrawn (R49) -/

/-- The session once a withdrawal has cleared its pending id. -/
def Session.cleared (x : Session) : Session := if x.state = .routePending then { x with pending := none } else x

/-- A session that a request may move: neither DORMANT nor in ALERT, pending on nothing. -/
structure Movable (x : Session) : Prop where
  awake : x.state ≠ .dormant
  unalerted : x.state ≠ .alert
  depth : x.stack.length ≤ 8
  pending : x.pending = none
  evac : x.evac = none
  idle : x.state = .idle → x.stack = [] ∧ x.shown = none

theorem movable_cleared {x : Session} (h : SessionSound x) (hd : x.state ≠ .dormant) (ha : x.state ≠ .alert) :
    Movable x.cleared := by
  obtain ⟨hlen, hempty, hpending, hshown, _, hevac, _, _⟩ := h
  have hnone : x.evac = none := by
    cases he : x.evac with
    | none => rfl
    | some e => exact absurd (hevac (by rw [he]; rfl)) ha
  unfold Session.cleared
  split
  · next hstate => exact ⟨hd, ha, hlen, rfl, hnone, fun h => by rw [hstate] at h; cases h⟩
  · next hstate =>
    have hfree : x.pending = none := by
      cases hp : x.pending with
      | none => rfl
      | some id => exact absurd (hpending.mp (by rw [hp]; rfl)) hstate
    refine ⟨hd, ha, hlen, hfree, hnone, fun h => ⟨hempty (.inl h), ?_⟩⟩
    cases hs : x.shown with
    | none => rfl
    | some id =>
      have := hshown.mp (by rw [hs]; rfl)
      rw [h] at this
      cases this

/-- A session as a request leaves it: sound, and neither DORMANT nor in ALERT. -/
def SoundAwake (x : Session) : Prop := SessionSound x ∧ x.state ≠ .dormant ∧ x.state ≠ .alert

theorem soundAwake_open {x : Session} (h : Movable x) (p : Page) (d : ScreenDecl) :
    SoundAwake ((x.open p).restartIdle d) := by
  simp [SoundAwake, SessionSound, Session.open, Session.push, Session.restartIdle, h.pending, h.evac]

theorem soundAwake_goHome {x : Session} (h : Movable x) (d : ScreenDecl) : SoundAwake (x.goHome.restartIdle d) := by
  simp [SoundAwake, SessionSound, Session.goHome, Session.restartIdle, h.pending, h.evac]

theorem soundAwake_expire {x : Session} (h : Movable x) (d : ScreenDecl) : SoundAwake (x.expire d) := by
  simp [SoundAwake, SessionSound, Session.expire, h.pending, h.evac]

theorem soundAwake_settleOnTop {x : Session} (hlen : x.stack.length ≤ 8) (hp : x.pending = none) (he : x.evac = none)
    (d : ScreenDecl) : SoundAwake (x.settleOnTop.restartIdle d) := by
  unfold Session.settleOnTop
  split
  · simp [SoundAwake, SessionSound, Session.restartIdle, hlen, hp, he]
  · next htop =>
    split
    · next hpage =>
      simp [SoundAwake, SessionSound, Session.restartIdle, hp, he, topIsRoute, htop, hpage]
      simpa [htop] using hlen
    all_goals simp [SoundAwake, SessionSound, Session.restartIdle, hlen, hp, he]

theorem soundAwake_back {x : Session} (h : Movable x) (b : Bool) (d : ScreenDecl) :
    SoundAwake ((x.back b).restartIdle d) := by
  unfold Session.back
  split
  · split
    · next hstack hidle =>
      obtain ⟨_, hshown⟩ := h.idle hidle
      simp [SoundAwake, SessionSound, Session.restartIdle, hidle, hstack, hshown, h.pending, h.evac]
    · exact soundAwake_settleOnTop h.depth h.pending h.evac d
  · next hstack =>
    have hlen := h.depth
    rw [hstack, List.length_cons] at hlen
    refine soundAwake_settleOnTop ?_ ?_ ?_ d <;> cases b
    · exact (Nat.le_succ _).trans hlen
    · exact (Nat.le_succ _).trans hlen
    · exact h.pending
    · exact h.pending
    · exact h.evac
    · exact h.evac

theorem soundAwake_setPrefs {x : Session} (h : SoundAwake x) (l : Option Nat) (p : Option Profile) (d : ScreenDecl) :
    SoundAwake ((x.setPrefs l p).restartIdle d) := by
  obtain ⟨⟨hlen, hempty, hpending, hshown, htop, hevac, _, _⟩, hd, ha⟩ := h
  exact ⟨⟨hlen, hempty, hpending, hshown, htop, hevac, fun _ => rfl,
    fun h => h.elim (absurd · ha) (absurd · hd)⟩, hd, ha⟩

theorem soundAwake_restartIdle {x : Session} (h : SoundAwake x) (d : ScreenDecl) : SoundAwake (x.restartIdle d) :=
  soundAwake_setPrefs (x := x) h none none d

/-! ## All sessions -/

/-- Every declared screen's session has a property. -/
def SessionsHold (p : Session → Prop) (s : State) : Prop := ∀ (n : Fin 48) (c : Screen), s.screens[n] = some c → p c.session

namespace SessionsHold

variable {p : Session → Prop} {s t : State}

theorem of_take {q : Session → Prop} (h : SessionsTake s t) (hp : ∀ d x y, Takes d x y → p x → q y) (hs : SessionsHold p s) :
    SessionsHold q t := by
  intro n c hc
  rcases h n with ⟨_, hnone⟩ | ⟨c', x, hs', ht, hx⟩
  · rw [hnone] at hc
    cases hc
  · rw [ht] at hc
    cases hc
    exact hp _ _ _ hx (hs n c' hs')

theorem of_screens (h : t.screens = s.screens) (hs : SessionsHold p s) : SessionsHold p t := by
  intro n c
  rw [h]
  exact hs n c

theorem of_changes {l : List Part} (h : Changes l s t) (hl : l.contains .sessions = false) (hs : SessionsHold p s) :
    SessionsHold p t := hs.of_screens (h.same .sessions hl)

theorem imp {q : Session → Prop} (h : ∀ x, p x → q x) (hs : SessionsHold p s) : SessionsHold q s :=
  fun n c hc => h _ (hs n c hc)

theorem mapSessions {q : Session → Prop} {f : ScreenDecl → Session → Session} (hf : ∀ d x, p x → q (f d x))
    (hs : SessionsHold p s) : SessionsHold q (s.mapSessions f) := by
  intro n c hc
  rw [mapSessions_get, Option.map_eq_some_iff] at hc
  obtain ⟨c', hc', rfl⟩ := hc
  exact hf _ _ (hs n c' hc')

/-- A change of one session, from states that may miss the property at its screen. -/
theorem modifySession {n : Fin 48} {f : ScreenDecl → Session → Session}
    (hf : ∀ c, s.screens[n] = some c → p (f c.decl c.session))
    (hs : ∀ (k : Fin 48) (c : Screen), n ≠ k → s.screens[k] = some c → p c.session) :
    SessionsHold p (s.modifySession n f) := by
  intro k c hc
  rw [modifySession_get] at hc
  split at hc
  · next hk =>
    subst hk
    rw [Option.map_eq_some_iff] at hc
    obtain ⟨c', hc', rfl⟩ := hc
    exact hf c' hc'
  · next hk => exact hs k c hk hc

end SessionsHold

/-! ## Withdrawal -/

/-- A withdrawal clears the pending id of its screen's session and lets the others take outcomes. -/
theorem withdraw_sessions {s : State} {n : Fin 48} {c : Screen} (hn : s.screens[n] = some c)
    (ha : c.session.state ≠ .alert) :
    (s.withdraw n c.session).screens[n] = some { c with session := c.session.cleared }
    ∧ ∀ k : Fin 48, n ≠ k → (s.screens[k] = none ∧ (s.withdraw n c.session).screens[k] = none)
      ∨ ∃ c' x, s.screens[k] = some c' ∧ (s.withdraw n c.session).screens[k] = some { c' with session := x }
        ∧ Takes c'.decl c'.session x := by
  unfold State.withdraw Session.cleared
  split
  · have htake := (RouteMoves.endScreenEntry (s.modifySession n Session.clearPending) n .withdrawn).sessions
    constructor
    · have hget : (s.modifySession n Session.clearPending).screens[n]
          = some { c with session := { c.session with pending := none } } := by
        rw [modifySession_get, if_pos rfl, hn]
        rfl
      rcases htake n with ⟨hnone, _⟩ | ⟨c', x, hc', ht, hx⟩
      · rw [hget] at hnone
        cases hnone
      · rw [hget] at hc'
        cases hc'
        rw [ht, takes_deaf hx rfl ha]
    · intro k hk
      have hget : (s.modifySession n Session.clearPending).screens[k] = s.screens[k] := by
        rw [modifySession_get, if_neg hk]
      rcases htake k with ⟨hnone, ht⟩ | ⟨c', x, hc', ht, hx⟩
      · exact .inl ⟨hget.symm.trans hnone, ht⟩
      · exact .inr ⟨c', x, hget.symm.trans hc', ht, hx⟩
  · refine ⟨hn, fun k _ => ?_⟩
    cases hk : s.screens[k] with
    | none => exact .inl ⟨rfl, rfl⟩
    | some c' => exact .inr ⟨c', c'.session, rfl, rfl, .refl _⟩

theorem withdraw_keeps (s : State) (n : Fin 48) (x : Session) : RouteKeeps s (s.withdraw n x) := by
  unfold State.withdraw
  split
  · exact (RouteKeeps.modifySession ..).trans (.endScreenEntry ..)
  · exact .refl s

/-- A request that withdraws, then moves the session. -/
theorem sessionsHold_moved {p : Session → Prop} (htakes : ∀ d x y, Takes d x y → p x → p y) {s : State}
    (hs : SessionsHold p s) {n : Fin 48} {c : Screen} (hn : s.screens[n] = some c) (ha : c.session.state ≠ .alert)
    {f : ScreenDecl → Session → Session} (hf : p (f c.decl c.session.cleared)) :
    SessionsHold p ((s.withdraw n c.session).modifySession n f) := by
  obtain ⟨hself, hothers⟩ := withdraw_sessions hn ha
  refine .modifySession (fun c' hc' => ?_) fun k c' hk hc' => ?_
  · rw [hself] at hc'
    cases hc'
    exact hf
  · rcases hothers k hk with ⟨_, hnone⟩ | ⟨c0, x, h0, ht, hx⟩
    · rw [hnone] at hc'
      cases hc'
    · rw [ht] at hc'
      cases hc'
      exact htakes _ _ _ hx (hs k c0 h0)

end Sys2Proof.Machine

/-! # Proofs: the sessions of every screen agree with the modes -/

namespace Sys2Proof.Machine

open Sys2Proof.Safety

/-- A session as the engine mode and the evacuation state want it (R126, R138, R139). -/
def Fits (m : EngineMode) (e : EvacState) (x : Session) : Prop :=
  SessionSound x ∧ (m = .load → x.state = .dormant)
  ∧ (m = .service → x.state ≠ .dormant ∧ (x.state = .alert ↔ e = .active))

/-- Every session is as the modes of its state want it. -/
def SessionsFit (s : State) : Prop := SessionsHold (Fits s.map.mode s.evac.state) s

theorem fits_takes {m : EngineMode} {e : EvacState} (d : ScreenDecl) (x y : Session) (h : Takes d x y) (hx : Fits m e x) :
    Fits m e y := by
  obtain ⟨hsound, hload, hservice⟩ := hx
  have hdormant := takes_state h (st := .dormant) (.inl rfl)
  have halert := takes_state h (st := .alert) (.inr (.inl rfl))
  refine ⟨sessionSound_takes h hsound, fun hm => hdormant.mpr (hload hm), fun hm => ?_⟩
  obtain ⟨hawake, hiff⟩ := hservice hm
  exact ⟨fun hy => hawake (hdormant.mp hy), halert.trans hiff⟩

/-- In SERVICE outside evacuation a session fits that is sound, and neither DORMANT nor in ALERT. -/
theorem fits_of_soundAwake {m : EngineMode} {e : EvacState} {x : Session} (hm : m = .service) (he : e ≠ .active)
    (h : SoundAwake x) : Fits m e x := by
  obtain ⟨hsound, hawake, halert⟩ := h
  refine ⟨hsound, fun hl => ?_, fun _ => ⟨hawake, fun h => absurd h halert, fun h => absurd h he⟩⟩
  rw [hm] at hl
  cases hl

theorem sessionsFit_of_moves {s t : State} (h : RouteMoves s t) (hs : SessionsFit s) : SessionsFit t := by
  unfold SessionsFit
  rw [h.keeps.map, h.keeps.evacState]
  exact .of_take h.sessions fits_takes hs

theorem sessionsFit_of_changes {l : List Part} {s t : State} (h : Changes l s t) (hl : l.contains .sessions = false)
    (hm : l.contains .mode = false) (he : l.contains .evacState = false) (hs : SessionsFit s) : SessionsFit t := by
  have hmode : t.map.mode = s.map.mode := h.same .mode hm
  have hstate : t.evac.state = s.evac.state := h.same .evacState he
  unfold SessionsFit
  rw [hmode, hstate]
  exact .of_changes h hl hs

theorem sessionsFit_bump {s : State} (hs : SessionsFit s) : SessionsFit s.bump := by
  have hcore := sessionsFit_of_changes (Changes.bumpCore s) rfl rfl rfl hs
  unfold State.bump
  split
  · exact sessionsFit_of_moves (.settle _) hcore
  · exact hcore

theorem sessionsFit_countIdle {s : State} (hs : SessionsFit s) : SessionsFit s.countIdle :=
  SessionsHold.mapSessions (s := s) (fun _ _ h => ⟨sessionSound_countIdle h.1, h.2⟩) hs

theorem sessionsFit_act {s t : State} (h : Act s t) (hs : SessionsFit s) : SessionsFit t := by
  cases h with
  | aside h =>
    unfold SessionsFit
    rw [h.mode, h.evacState]
    exact .of_screens h.screens hs
  | post => exact sessionsFit_of_changes (Changes.post ..) rfl rfl rfl hs
  | bump => exact sessionsFit_bump hs
  | countIdle => exact sessionsFit_countIdle hs
  | clearFailures => exact hs

/-! ## Evacuation (R139) -/

/-- A session in ALERT, sound. -/
def SoundAlert (x : Session) : Prop := SessionSound x ∧ x.state = .alert

/-- A session in IDLE, sound. -/
def SoundIdle (x : Session) : Prop := SessionSound x ∧ x.state = .idle

theorem soundAlert_takes (d : ScreenDecl) (x y : Session) (h : Takes d x y) (hx : SoundAlert x) : SoundAlert y :=
  ⟨sessionSound_takes h hx.1, (takes_state h (.inr (.inl rfl))).mpr hx.2⟩

theorem entered_sessions (s : State) (cause : EvacCause) : SessionsHold SoundAlert (s.entered cause) := by
  unfold State.entered
  generalize (s.evacTo .active).endEntries (fun e => e.cls == .normal) .evacCancelled = t
  have h1 : SessionsHold SoundAlert (t.mapSessions fun _ ses => ses.toAlert) :=
    SessionsHold.mapSessions (p := fun _ => True) (fun _ _ _ => ⟨sessionSound_toAlert, rfl⟩) fun _ _ _ => trivial
  generalize (t.mapSessions fun _ ses => ses.toAlert) = t1 at h1
  have h2 := h1.of_changes (Changes.holdTimers t1) rfl
  generalize t1.holdTimers = t2 at h2
  have h3 := h2.of_changes (Changes.bumpCore t2) rfl
  generalize t2.bumpCore = t3 at h3
  have h4 := h3.of_changes (Changes.dueAll t3) rfl
  generalize t3.dueAll = t4 at h4
  have h5 := h4.of_changes (Changes.postEvac t4 cause) rfl
  generalize t4.postEvac cause = t5 at h5
  exact h5.of_screens rfl

theorem exited_sessions {s : State} (hs : SessionsHold SoundAlert s) : SessionsHold SoundIdle s.exited := by
  have h0 : SessionsHold SoundAlert ((s.evacTo .inactive).endEntries (fun e => e.cls == .evacuation) .evacEnded) :=
    .of_take (RouteMoves.endEntries ..).sessions soundAlert_takes (s := s.evacTo .inactive) hs
  unfold State.exited
  generalize (s.evacTo .inactive).endEntries (fun e => e.cls == .evacuation) .evacEnded = t at h0
  have h1 := h0.of_changes (Changes.clearDue t) rfl
  generalize t.clearDue = t1 at h1
  have h2 : SessionsHold SoundIdle (t1.mapSessions Session.leaveAlert) := by
    refine .mapSessions (fun d x hx => ?_) h1
    rw [Session.leaveAlert, if_pos hx.2]
    exact ⟨sessionSound_toIdle d x, rfl⟩
  generalize t1.mapSessions Session.leaveAlert = t2 at h2
  have h3 := h2.of_changes (Changes.bumpCore t2) rfl
  generalize t2.bumpCore = t3 at h3
  have h4 := h3.of_changes (Changes.postEvac t3 .ended) rfl
  generalize t3.postEvac .ended = t4 at h4
  exact h4.of_screens rfl

theorem sessionsFit_entryEvent {s : State} (hm : s.map.mode = .service) (c : EvacCause) :
    SessionsFit (s.entryEvent c) := by
  obtain ⟨hmode, hstate, _⟩ := entered_frame s c
  rw [entryEvent_eq]
  refine sessionsFit_of_moves (.settle _) ?_
  refine (entered_sessions s c).imp fun x hx => ⟨hx.1, fun hl => ?_, fun _ => ⟨fun hd => ?_, fun _ => hstate, fun _ => hx.2⟩⟩
  · rw [hmode, hm] at hl
    cases hl
  · rw [hx.2] at hd
    cases hd

theorem sessionsFit_exitEvent {s : State} (hm : s.map.mode = .service) (ha : s.evac.state = .active)
    (hs : SessionsFit s) : SessionsFit s.exitEvent := by
  obtain ⟨hmode, hstate, _⟩ := exited_frame s
  have halert : SessionsHold SoundAlert s := hs.imp fun x hx => ⟨hx.1, (hx.2.2 hm).2.mpr ha⟩
  rw [exitEvent_eq]
  refine sessionsFit_of_moves (.settle _) ?_
  refine (exited_sessions halert).imp fun x hx => fits_of_soundAwake (hmode.trans hm) ?_ ⟨hx.1, ?_, ?_⟩
  · rw [hstate]
    nofun
  · rw [hx.2]
    nofun
  · rw [hx.2]
    nofun

/-- In LOAD the evacuation state is of no account to the sessions. -/
theorem sessionsFit_evacTo {s : State} (hm : s.map.mode = .load) (hs : SessionsFit s) (e : EvacState) :
    SessionsFit (s.evacTo e) := by
  refine SessionsHold.imp (fun x hx => ⟨hx.1, hx.2.1, fun h => ?_⟩) (s := s) hs
  have h : s.map.mode = .service := h
  rw [hm] at h
  cases h

theorem sessionsFit_raiseEvac {s : State} (hs : SessionsFit s) (c : EvacCause) : SessionsFit (s.raiseEvac c) := by
  unfold State.raiseEvac
  split
  · split
    · next h => exact sessionsFit_entryEvent (beq_iff_eq.mp h) c
    · next h =>
      have hload : s.map.mode = .load := by
        cases hm : s.map.mode with
        | load => rfl
        | service => exact absurd (beq_iff_eq.mpr hm) h
      exact sessionsFit_of_moves (.post ..) (sessionsFit_evacTo hload hs .pending)
  all_goals exact hs

theorem sessionsFit_endPending {s : State} (hm : s.map.mode = .load) (hs : SessionsFit s) : SessionsFit s.endPending := by
  have h1 := sessionsFit_evacTo hm hs .inactive
  have h2 := sessionsFit_of_changes (Changes.clearDue (s.evacTo .inactive)) rfl rfl rfl h1
  exact sessionsFit_of_moves (.post ..) (s := ((s.evacTo .inactive).clearDue).setAck false) h2

/-! ## SERVICE entered and left (R138) -/

theorem sessionsFit_enterService {s : State} (he : s.evac.state ≠ .active) : SessionsFit s.enterService := by
  have h : SessionsHold (Fits .service s.evac.state)
      ((s.withMap { s.map with mode := .service, generation := 0 }).mapSessions fun d ses => ses.toIdle d) :=
    SessionsHold.mapSessions (p := fun _ => True)
      (fun d x _ => fits_of_soundAwake rfl he ⟨sessionSound_toIdle d x, nofun, nofun⟩) fun _ _ _ => trivial
  exact h

theorem sessionsFit_leaveService (s : State) : SessionsFit s.leaveService := by
  unfold State.leaveService
  generalize s.endEntries (fun _ => true) .serviceStopped = u
  have h : ∀ (v : State) (e : EvacState), SessionsHold (Fits .load e) (v.mapSessions fun d ses => ses.toDormant d) :=
    fun v e => SessionsHold.mapSessions (p := fun _ => True)
      (fun d _ _ => ⟨sessionSound_made d, fun _ => rfl, nofun⟩) fun _ _ _ => trivial
  dsimp only
  have hv := h (u.withMap { u.map with mode := .load })
  have hmode : ((u.withMap { u.map with mode := .load }).mapSessions fun d ses => ses.toDormant d).map.mode = .load := rfl
  generalize (u.withMap { u.map with mode := .load }).mapSessions (fun d ses => ses.toDormant d) = v at hv hmode
  generalize mapFin (fun _ t => t.stop) v.clock.timers = timers
  unfold State.stopEvac
  split
  · refine sessionsFit_of_moves (.post ..) ?_
    show SessionsHold (Fits v.map.mode .pending) v
    rw [hmode]
    exact hv _
  · show SessionsHold (Fits v.map.mode v.evac.state) v
    rw [hmode]
    exact hv _

/-! ## Session requests and ROUTE -/

theorem fits_awake {m : EngineMode} {e : EvacState} {x : Session} (h : Fits m e x) (hd : x.state ≠ .dormant)
    (ha : x.state ≠ .alert) : m = .service ∧ e ≠ .active := by
  obtain ⟨_, hload, hservice⟩ := h
  cases m with
  | load => exact absurd (hload rfl) hd
  | service => exact ⟨rfl, fun he => ha ((hservice rfl).2.mpr he)⟩

theorem sessionsFit_withdrawn {s : State} (hs : SessionsFit s) {n : Fin 48} {c : Screen} (hn : s.screens[n] = some c)
    (hd : c.session.state ≠ .dormant) (ha : c.session.state ≠ .alert) {f : ScreenDecl → Session → Session}
    (hf : Movable c.session.cleared → SoundAwake (f c.decl c.session.cleared)) :
    SessionsFit ((s.withdraw n c.session).modifySession n f) := by
  have hfit := hs n c hn
  obtain ⟨hmode, hstate⟩ := fits_awake hfit hd ha
  have hkeeps := withdraw_keeps s n c.session
  have hkept : SessionsHold (Fits s.map.mode s.evac.state) ((s.withdraw n c.session).modifySession n f) :=
    sessionsHold_moved fits_takes hs hn ha (fits_of_soundAwake hmode hstate (hf (movable_cleared hfit.1 hd ha)))
  show SessionsHold (Fits (s.withdraw n c.session).map.mode (s.withdraw n c.session).evac.state) _
  rw [hkeeps.map, hkeeps.evacState]
  exact hkept

theorem sessionsFit_takeRequest_withdrawn {s : State} (hs : SessionsFit s) {n : Fin 48} {c : Screen}
    (hn : s.screens[n] = some c) (hd : c.session.state ≠ .dormant) (ha : c.session.state ≠ .alert) (x : ReplyExtras)
    {f : Session → Session} (hf : Movable c.session.cleared → SoundAwake ((f c.session.cleared).restartIdle c.decl)) :
    SessionsFit (takeRequest s n c true x f).1 := by
  rw [takeRequest_fst, if_pos rfl]
  exact sessionsFit_withdrawn hs hn hd ha hf

theorem sessionsFit_takeRequest_kept {s : State} (hs : SessionsFit s) {n : Fin 48} {c : Screen}
    (hn : s.screens[n] = some c) (hd : c.session.state ≠ .dormant) (ha : c.session.state ≠ .alert) (x : ReplyExtras)
    {f : Session → Session} (hf : SoundAwake c.session → SoundAwake ((f c.session).restartIdle c.decl)) :
    SessionsFit (takeRequest s n c false x f).1 := by
  have hfit := hs n c hn
  obtain ⟨hmode, hstate⟩ := fits_awake hfit hd ha
  rw [takeRequest_fst, if_neg Bool.false_ne_true]
  refine SessionsHold.modifySession (s := s) (fun c' hc' => ?_) fun k c' _ hc' => hs k c' hc'
  rw [hn] at hc'
  cases hc'
  exact fits_of_soundAwake hmode hstate (hf ⟨hfit.1, hd, ha⟩)

theorem sessionsFit_idleExpires {s : State} (hs : SessionsFit s) (n : Fin 48) : SessionsFit (s.idleExpires n) := by
  unfold State.idleExpires
  split
  · exact hs
  · next c hn =>
    split
    · next hidle =>
      obtain ⟨⟨_, _, _, _, _, _, _, hstopped⟩, _⟩ := hs n c hn
      have hruns : ∀ {st : SessionState}, st = .alert ∨ st = .dormant → c.session.state ≠ st := by
        intro st hst h
        have := hstopped (by rw [h]; exact hst)
        rw [this] at hidle
        cases hidle
      exact sessionsFit_withdrawn hs hn (hruns (.inr rfl)) (hruns (.inl rfl)) fun h => soundAwake_expire h _
    · exact hs

theorem sessionsFit_route {s : State} (hs : SessionsFit s) (a : RouteArgs) : SessionsFit (routeEffect a s).1 := by
  refine checked_preserves hs fun hpass => ?_
  obtain ⟨hm, ha⟩ := routeChecks_service hpass
  split
  · next o d _ _ =>
    have h1 := sessionsFit_of_moves (supersede_moves s o) hs
    have hkeeps := (supersede_moves s o).keeps
    have hmode : (s.supersede o).map.mode = .service := by rw [hkeeps.map, hm]
    have hstate : (s.supersede o).evac.state ≠ .active := by
      rw [hkeeps.evacState]
      exact fun h => by rw [State.evacActive, h] at ha; cases ha
    refine sessionsFit_of_moves (.settle _) ?_
    generalize hs1 : s.supersede o = s1 at h1 hmode hstate
    have h2 := sessionsFit_of_changes (Changes.countDemand s1 d) rfl rfl rfl h1
    have hmode2 : (s1.countDemand d).map.mode = .service := ((Changes.countDemand s1 d).same .mode rfl).trans hmode
    have hstate2 : (s1.countDemand d).evac.state ≠ .active :=
      fun h => hstate (((Changes.countDemand s1 d).same .evacState rfl).symm.trans h)
    generalize s1.countDemand d = s2 at h2 hmode2 hstate2
    have h3 : SessionsFit (s2.accept o d (s.routeProfile a.profile o) .normal) := h2
    cases o with
    | node => exact h3
    | screen n =>
      refine SessionsHold.modifySession (fun c hc => ?_) fun k c _ hc => h3 k c hc
      obtain ⟨hsound, _, hservice⟩ := h3 n c hc
      obtain ⟨_, hiff⟩ := hservice hmode2
      have hunalert : c.session.state ≠ .alert := fun h => hstate2 (hiff.mp h)
      exact fits_of_soundAwake hmode2 hstate2 ⟨sessionSound_routeAccepted hsound hunalert _ _, nofun, nofun⟩
  · exact hs

/-! ## The invariant -/

theorem sessionsFit_move (c : Instr) {s : State} (hm : ModesAgree s) (hs : SessionsFit s) : SessionsFit (moveOf c s) := by
  have hacts : ∀ {c : Instr}, movesRoutes c = false → SessionsFit (moveOf c s) := fun h =>
    (moveOf_acts _ s h).keeps (p := SessionsFit) sessionsFit_act hs
  cases c with
  | hardReset =>
    intro n c hc
    have : (moveOf .hardReset s).screens[n] = none := Vector.getElem_replicate ..
    rw [this] at hc
    cases hc
  | fetch => exact sessionsFit_of_moves (.settle _) (s := s.fetched) hs
  | start =>
    refine checked_preserves hs fun hpass => ?_
    have hload : s.map.mode = .load := beq_iff_eq.mp (hpass _ List.mem_cons_self)
    split
    · exact hs
    · dsimp only
      split
      · exact sessionsFit_entryEvent rfl .start
      · refine sessionsFit_enterService fun h => ?_
        have := inactive_of_load hm hload
        rw [State.evacActive, h] at this
        cases this
  | stop => exact checked_preserves hs fun _ => sessionsFit_leaveService s
  | mapClear =>
    refine checked_preserves hs fun _ n c hc => ?_
    have : (Vector.replicate 48 (none : Option Screen))[n] = none := Vector.getElem_replicate ..
    have hc : (Vector.replicate 48 (none : Option Screen))[n] = some c := hc
    rw [this] at hc
    cases hc
  | screenDeclare _ n a =>
    refine checked_preserves hs fun hpass => ?_
    have hload : s.map.mode = .load := beq_iff_eq.mp (hpass _ List.mem_cons_self)
    split
    · next n d _ _ =>
      intro k c hc
      have hc : (modifyAt s.screens n fun o => some (redeclare d o))[k] = some c := hc
      rw [modifyAt_get] at hc
      split at hc
      · next hk =>
        cases hc
        cases hold : s.screens[k] with
        | none =>
          refine ⟨sessionSound_made d, fun _ => rfl, fun h => ?_⟩
          cases hload.symm.trans h
        | some c => exact hs k c hold
      · exact hs k c hc
    · exact hs
  | screenUndeclare _ n a =>
    refine checked_preserves hs fun _ => ?_
    split
    · exact hs
    · split
      · next n _ _ =>
        intro k c hc
        have hget : (s.screens.set n none)[k] = if n.val = k.val then none else s.screens[k] := Vector.getElem_set ..
        replace hc := hget.symm.trans hc
        split at hc
        · cases hc
        · exact hs k c hc
      · exact hs
  | route _ a => exact sessionsFit_route hs a
  | routeCancel =>
    refine checked_preserves hs fun _ => ?_
    split
    · exact hs
    · split
      · exact hs
      · exact sessionsFit_of_moves ((RouteMoves.endEntries ..).trans (.settle _)) hs
  | completionEvent u => exact sessionsFit_of_moves (.complete s u) hs
  | nav _ n a =>
    refine sessionRequest_preserves hs fun k c hc hd ha => ?_
    split
    · exact hs
    · exact sessionsFit_takeRequest_withdrawn hs hc hd ha _ fun h => soundAwake_open h _ _
  | back | backRestore =>
    exact sessionRequest_preserves hs fun _ _ hc hd ha =>
      sessionsFit_takeRequest_withdrawn hs hc hd ha _ fun h => soundAwake_back h _ _
  | home =>
    exact sessionRequest_preserves hs fun _ _ hc hd ha =>
      sessionsFit_takeRequest_withdrawn hs hc hd ha _ fun h => soundAwake_goHome h _
  | prefs =>
    exact sessionRequest_preserves hs fun _ _ hc hd ha =>
      sessionsFit_takeRequest_kept hs hc hd ha _ fun h => soundAwake_setPrefs h _ _ _
  | tap =>
    exact sessionRequest_preserves hs fun _ _ hc hd ha =>
      sessionsFit_takeRequest_kept hs hc hd ha _ fun h => soundAwake_restartIdle h _
  | idleTimerExpiry n => exact sessionsFit_idleExpires hs n
  | evacInRise =>
    simp only [moveOf]
    split
    · exact sessionsFit_raiseEvac (s := s.withEvac { s.evac with debounced := true }) hs .line
    · exact hs
  | evac => exact sessionsFit_raiseEvac hs .host
  | evacEnd =>
    refine checked_preserves hs fun _ => ?_
    obtain ⟨hactive, hpending, _⟩ := hm
    dsimp only
    split
    · next h => exact sessionsFit_exitEvent (hactive h) h hs
    · next h => exact sessionsFit_endPending (hpending h) hs
    · exact hs
  | _ => exact hacts rfl

/-- Settles O16: taking outcomes keeps a session sound and out of DORMANT and ALERT; START, STOP and the evacuation events
set every session anew, and a request moves one that is awake. -/
theorem everyStepKeepsSessionsSound : Obligations.EveryStepKeepsSessionsSound :=
  keptByEveryStep_of_move (fun _ _ h => h)
    (fun s c h => ⟨modesAgree_of_changes (Changes.taken s c) rfl h.1, h.2⟩)
    (fun s tag a h => ⟨modesAgree_of_changes (Changes.reply s tag a) rfl h.1, h.2⟩)
    fun c _ h => ⟨modesAgree_move c h.1, sessionsFit_move c h.1 h.2⟩

end Sys2Proof.Machine

/-! # Proofs: pending sessions and their entries -/

namespace Sys2Proof.Machine

open Sys2Proof.Safety

/-! ## Pending ids -/

/-- The outcome ends a session's pending state (R136); SUPERSEDED, WITHDRAWN and EVAC_ENDED leave it. -/
def RouteOutcome.endsPending : RouteOutcome → Bool
  | .superseded | .withdrawn | .evacEnded => false
  | .delivered | .noRoute | .noRouteUnsettled | .noDestination | .unresolvedMove | .noExit | .cancelled | .evacCancelled
  | .serviceStopped => true

/-- A session that is pending on an id is ROUTE_PENDING. -/
def PendingSound (x : Session) : Prop := x.pending.isSome → x.state = .routePending

theorem takeOutcome_pending {x : Session} (h : PendingSound x) (id : Nat) (o : RouteOutcome) (d : ScreenDecl) :
    (x.takeOutcome id o d).pending = if o.endsPending = true ∧ x.pending = some id then none else x.pending := by
  unfold Session.takeOutcome
  by_cases hp : x.pending = some id
  · have hstate : x.state = .routePending := h (by rw [hp]; rfl)
    rw [if_pos ⟨hstate, hp⟩]
    cases o <;> simp [RouteOutcome.endsPending, hp, Session.restartIdle]
  · rw [if_neg fun h => hp h.2, if_neg fun h => hp h.2]

theorem pendingSound_takeOutcome {x : Session} (h : PendingSound x) (id : Nat) (o : RouteOutcome) (d : ScreenDecl) :
    PendingSound (x.takeOutcome id o d) := by
  rcases takeOutcome_cases id o d x with heq | ⟨_, _, heq | heq⟩ <;> rw [heq]
  · exact h
  · exact nofun
  · exact nofun

theorem takeEvacResult_pending (x : Session) (id : Nat) (o : RouteOutcome) (d : ScreenDecl) :
    (x.takeEvacResult id o d).pending = x.pending := by
  rcases takeEvacResult_cases id o d x with heq | ⟨_, e, heq⟩ <;> rw [heq]

theorem pendingSound_takeEvacResult {x : Session} (h : PendingSound x) (id : Nat) (o : RouteOutcome) (d : ScreenDecl) :
    PendingSound (x.takeEvacResult id o d) := by
  rcases takeEvacResult_cases id o d x with heq | ⟨_, e, heq⟩ <;> rwa [heq]

theorem pendingOf_modifySession (s : State) (n k : Fin 48) (f : ScreenDecl → Session → Session) :
    pendingOf (s.modifySession n f) k
      = if n = k then (s.screens[k]).bind fun c => (f c.decl c.session).pending else pendingOf s k := by
  unfold pendingOf
  rw [modifySession_get]
  split
  · cases s.screens[k] <;> rfl
  · rfl

theorem pendingOf_modifySession_same {s : State} {n : Fin 48} {f : ScreenDecl → Session → Session}
    (hf : ∀ d x, (f d x).pending = x.pending) (k : Fin 48) : pendingOf (s.modifySession n f) k = pendingOf s k := by
  rw [pendingOf_modifySession]
  split
  · unfold pendingOf
    simp only [hf]
  · rfl

theorem pendingOf_mapSessions_same {s : State} {f : ScreenDecl → Session → Session} {p : Session → Prop}
    (hs : SessionsHold p s) (hf : ∀ d x, p x → (f d x).pending = x.pending) (k : Fin 48) :
    pendingOf (s.mapSessions f) k = pendingOf s k := by
  unfold pendingOf
  rw [mapSessions_get]
  cases hk : s.screens[k] with
  | none => rfl
  | some c => exact hf c.decl c.session (hs k c hk)

/-- A handed outcome ends the pending state of the session that is pending on its id, and of no other. -/
theorem pendingOf_handOutcome {s : State} (hs : SessionsHold PendingSound s) (r : RouteResult) (n : Fin 48) :
    pendingOf (s.handOutcome r) n
      = if r.screen = some n ∧ r.cls = .normal ∧ r.outcome.endsPending = true ∧ pendingOf s n = some r.id then none
        else pendingOf s n := by
  unfold State.handOutcome
  split
  · next h => rw [h, if_neg (by simp)]
  · next k hk =>
    split
    · next hc =>
      rw [pendingOf_modifySession, hk, hc]
      by_cases hkn : k = n
      · subst hkn
        rw [if_pos rfl]
        cases hn : s.screens[k] with
        | none => simp [pendingOf, hn]
        | some c =>
          simp only [Option.bind_some, takeOutcome_pending (hs k c hn), pendingOf, hn, true_and]
      · rw [if_neg hkn, if_neg (by simp [hkn])]
    · next hc =>
      have hsame := pendingOf_modifySession_same (s := s) (n := k) (fun d x => takeEvacResult_pending x r.id r.outcome d) n
      have hcls : r.cls ≠ .normal := by rw [hc]; nofun
      simp only [hcls, false_and, and_false, if_false]
      split
      · exact hsame
      · exact hsame

theorem pendingSound_takes (d : ScreenDecl) (x y : Session) (h : Takes d x y) (hx : PendingSound x) : PendingSound y := by
  induction h with
  | refl => exact hx
  | outcome _ id o ih => exact pendingSound_takeOutcome ih _ _ _
  | evac _ id o ih => exact pendingSound_takeEvacResult ih _ _ _

/-! ## Results -/

/-- A result of an entry. -/
structure ResultOf (e : Entry) (r : RouteResult) : Prop where
  id : r.id = e.id
  screen : r.screen = e.origin.screen?
  cls : r.cls = e.cls

theorem resultOf_empty (s : State) (e : Entry) (o : RouteOutcome) (f : List RouteFlag) : ResultOf e (emptyResult s e o f) :=
  ⟨rfl, rfl, rfl⟩

theorem resultOf_settled (s : State) (a : Attempt) : ResultOf a.entry (settledResult s a) := by
  unfold settledResult
  repeat' split
  all_goals exact ⟨rfl, rfl, rfl⟩

theorem resultOf_checked (s : State) (a : Attempt) : ResultOf a.entry (checkedResult s a) := by
  unfold checkedResult
  repeat' split
  all_goals exact ⟨rfl, rfl, rfl⟩

/-- A failed resolution ends a pending state. -/
theorem resolve_endsPending {s : State} {d : Dest} {z : Option (Fin 32)} {o : RouteOutcome}
    (h : resolve s d z = .failed o) : o.endsPending = true := by
  unfold resolve resolveListing resolveCategory resolveExit at h
  repeat' split at h
  all_goals cases h
  all_goals rfl

theorem settled_endsPending {s : State} {a : Attempt}
    (h : ∀ o, a.resolution = .failed o → o.endsPending = true) : (settledResult s a).outcome.endsPending = true := by
  unfold settledResult
  split
  · next ho => exact h _ ho
  · split <;> rfl

theorem checked_endsPending {s : State} {a : Attempt}
    (h : ∀ o, a.resolution = .failed o → o.endsPending = true) : (checkedResult s a).outcome.endsPending = true := by
  unfold checkedResult
  split
  · next ho => exact h _ ho
  · repeat' split
    all_goals rfl

theorem searching_resolution {a : Attempt} (h : a.immediate = false) (o : RouteOutcome) : a.resolution ≠ .failed o := by
  intro ho
  unfold Attempt.immediate at h
  rw [ho] at h
  cases h

/-! ## Entries paired with pending ids -/

/-- The pending ids of the sessions are those of the NORMAL entries in a list, but for one screen that is excepted, and no
screen has two EVACUATION entries in it. -/
structure Pairs (x : Option (Fin 48)) (l : List Entry) (s : State) : Prop where
  sound : SessionsHold PendingSound s
  normal : ∀ n, x ≠ some n → ((l.filter (Entry.ofScreen .normal n)).map Entry.id).Perm (pendingOf s n).toList
  evac : ∀ n, (l.filter (Entry.ofScreen .evacuation n)).length ≤ 1

namespace Pairs

variable {x : Option (Fin 48)} {l : List Entry} {s t : State}

theorem perm {k : List Entry} (h : l.Perm k) (hs : Pairs x l s) : Pairs x k s :=
  ⟨hs.sound, fun n hn => ((h.symm.filter _).map _).trans (hs.normal n hn), fun n => (h.filter _).length_eq ▸ hs.evac n⟩

theorem of_screens (hs : Pairs x l s) (h : t.screens = s.screens) : Pairs x l t := by
  refine ⟨.of_screens h hs.sound, fun n hn => ?_, hs.evac⟩
  rw [pendingOf, h]
  exact hs.normal n hn

theorem ofScreen_iff {c : EntryClass} {n : Fin 48} {e : Entry} :
    Entry.ofScreen c n e = true ↔ e.cls = c ∧ e.origin.screen? = some n := by
  rw [Entry.ofScreen, Bool.and_eq_true, beq_iff_eq, beq_iff_eq]

/-- An entry is ended: its outcome is handed on, and ends its session's pending state unless its screen is excepted. -/
theorem hand {e : Entry} {r : RouteResult} (hs : Pairs x (e :: l) s) (hr : ResultOf e r)
    (ho : r.outcome.endsPending = true ∨ (e.cls = .normal → e.origin.screen? = x)) : Pairs x l (s.handOutcome r) := by
  refine ⟨.of_take (RouteMoves.handOutcome s r).sessions pendingSound_takes hs.sound, fun n hn => ?_, fun n => ?_⟩
  · have hold := hs.normal n hn
    rw [pendingOf_handOutcome hs.sound, hr.screen, hr.cls, hr.id]
    by_cases he : Entry.ofScreen .normal n e = true
    · rw [List.filter_cons_of_pos he, List.map_cons] at hold
      obtain ⟨hcls, hscreen⟩ := ofScreen_iff.mp he
      have hends : r.outcome.endsPending = true := ho.resolve_right fun h => hn ((h hcls).symm.trans hscreen)
      cases hp : pendingOf s n with
      | none =>
        rw [hp] at hold
        exact absurd hold.length_eq (by simp)
      | some id =>
        rw [hp, Option.toList_some] at hold
        have hone := List.perm_singleton.mp hold
        rw [List.cons.injEq] at hone
        rw [if_pos ⟨hscreen, hcls, hends, by rw [hone.1]⟩, hone.2]
        exact .refl _
    · rw [List.filter_cons_of_neg he] at hold
      rw [if_neg fun h => he (ofScreen_iff.mpr ⟨h.2.1, h.1⟩)]
      exact hold
  · refine le_trans ?_ (hs.evac n)
    exact (List.Sublist.filter _ (List.sublist_cons_self e l)).length_le

theorem modifySession {n : Fin 48} {f : ScreenDecl → Session → Session} (hs : Pairs x l s)
    (hf : ∀ c, s.screens[n] = some c → PendingSound (f c.decl c.session)) (hx : x = none ∨ x = some n) :
    Pairs (some n) l (s.modifySession n f) := by
  refine ⟨.modifySession hf fun k c _ hc => hs.sound k c hc, fun k hk => ?_, hs.evac⟩
  have hne : n ≠ k := fun h => hk (congrArg some h)
  rw [pendingOf_modifySession, if_neg hne]
  refine hs.normal k fun h => ?_
  rcases hx with hx | hx <;> rw [hx] at h
  · cases h
  · exact hk h

/-- The excepted screen is back in order. -/
theorem close {n : Fin 48} (hs : Pairs (some n) l s)
    (hn : ((l.filter (Entry.ofScreen .normal n)).map Entry.id).Perm (pendingOf s n).toList) : Pairs none l s := by
  refine ⟨hs.sound, fun k _ => ?_, hs.evac⟩
  by_cases h : n = k
  · exact h ▸ hn
  · exact hs.normal k fun he => h (Option.some.inj he)

end Pairs

/-! ## Attempts and entries together -/

/-- No attempt in a unit but perhaps in one has a completion that follows at once. -/
def SearchBut (k : UnitName) (u : Units) : Prop := ∀ j, j ≠ k → ∀ a, u.get j = some a → a.immediate = false

/-- Every attempt in a unit still searches, and the entries queued and in the units pair with the pending ids. -/
structure Matched (x : Option (Fin 48)) (s : State) : Prop where
  search : ∀ k a, s.units.get k = some a → a.immediate = false
  pairs : Pairs x s.allEntries s

theorem attemptsSearch_iff {s : State} : AttemptsSearch s ↔ ∀ k a, s.units.get k = some a → a.immediate = false := by
  unfold AttemptsSearch
  constructor
  · intro h k a hk
    refine h a (List.mem_append.mpr ?_)
    cases k
    · exact .inl (Option.mem_toList.mpr hk)
    · exact .inr (Option.mem_toList.mpr hk)
  · intro h a ha
    rcases List.mem_append.mp ha with ha | ha
    · exact h .a a (Option.mem_toList.mp ha)
    · exact h .b a (Option.mem_toList.mp ha)

theorem pendingAgrees_iff {s : State} : PendingAgrees s ↔ SessionsAgree s ∧ Matched none s := by
  constructor
  · rintro ⟨hs, hsearch, hpairs⟩
    refine ⟨hs, attemptsSearch_iff.mp hsearch, fun n c hc hp => ?_, fun n _ => ?_, fun n => (hpairs n).2⟩
    · exact (hs.2 n c hc).1.2.2.1.mp hp
    · exact List.Perm.of_eq (hpairs n).1
  · rintro ⟨hs, hsearch, _, hnormal, hevac⟩
    refine ⟨hs, attemptsSearch_iff.mpr hsearch, fun n => ⟨?_, hevac n⟩⟩
    have hperm := hnormal n nofun
    cases hp : pendingOf s n with
    | none =>
      rw [hp, Option.toList_none, List.perm_nil] at hperm
      exact hperm
    | some id =>
      rw [hp, Option.toList_some, List.perm_singleton] at hperm
      exact hperm

namespace Matched

variable {x : Option (Fin 48)} {s : State}

theorem of_parts {t : State} (hs : Matched x s) (hu : t.units = s.units) (hq : t.queue.entries = s.queue.entries)
    (hscreens : t.screens = s.screens) : Matched x t := by
  have hentries : t.allEntries = s.allEntries := by rw [State.allEntries, State.allEntries, hu, hq]
  refine ⟨by rw [hu]; exact hs.search, ?_⟩
  rw [hentries]
  exact hs.pairs.of_screens hscreens

theorem of_changes {l : List Part} {t : State} (hs : Matched x s) (h : Changes l s t) (hq : l.contains .entries = false)
    (hu : l.contains .units = false) (hp : l.contains .sessions = false) : Matched x t :=
  hs.of_parts (h.same .units hu) (congrArg RouteQueue.entries (h.same .entries hq)) (h.same .sessions hp)

/-- A unit posts the outcome of its entry. -/
theorem postFromUnit {u : UnitName} {a : Attempt} {r : RouteResult} (ha : s.units.get u = some a)
    (hother : SearchBut u s.units) (hp : Pairs x s.allEntries s) (hr : ResultOf a.entry r)
    (ho : r.outcome.endsPending = true ∨ (a.entry.cls = .normal → a.entry.origin.screen? = x)) :
    Matched x (s.postFromUnit u r) := by
  refine ⟨fun k b hb => ?_, ?_⟩
  · rw [postFromUnit_units] at hb
    by_cases hk : k = u
    · rw [hk, Units.get_set] at hb
      cases hb
    · refine hother k hk b ?_
      rw [← hb]
      cases k <;> cases u <;> first | rfl | exact absurd rfl hk
  · have hperm : s.allEntries.Perm (a.entry :: (s.postFromUnit u r).allEntries) := by
      rw [State.allEntries, State.allEntries, postFromUnit_queue, postFromUnit_units]
      exact (List.Perm.append_left _ (Units.entries_set_none ha)).trans List.perm_middle
    have hhand : Pairs x (s.postFromUnit u r).allEntries
        (((s.post (.routeResult r)).countFailure r.outcome).handOutcome r) :=
      ((hp.perm hperm).of_screens (by rw [countFailure_screens]; rfl)).hand hr ho
    exact hhand.of_screens rfl

/-- A start event for an entry that pairs with the others (R55). -/
theorem startAttempt {u : UnitName} {e : Entry} {n : Nat} (hother : SearchBut u s.units)
    (hp : Pairs x (s.withUnits (s.units.set u (some (beginAttempt s e n)))).allEntries s) :
    Matched x (s.startAttempt u e n) := by
  unfold State.startAttempt
  have hget : (s.units.set u (some (beginAttempt s e n))).get u = some (beginAttempt s e n) := Units.get_set ..
  have hother' : SearchBut u (s.units.set u (some (beginAttempt s e n))) := by
    intro k hk b hb
    refine hother k hk b ?_
    rw [← hb]
    cases k <;> cases u <;> first | rfl | exact absurd rfl hk
  have hp' := hp.of_screens (t := s.withUnits (s.units.set u (some (beginAttempt s e n)))) rfl
  dsimp only
  split
  · refine postFromUnit hget hother' hp' (resultOf_settled ..) (.inl (settled_endsPending fun o ho => ?_))
    exact resolve_endsPending (s := s) ho
  · next himm =>
    refine ⟨fun k b hb => ?_, hp'⟩
    by_cases hk : k = u
    · subst hk
      rw [State.withUnits_units, hget] at hb
      cases hb
      simpa using himm
    · exact hother' k hk b hb

theorem grant {u : UnitName} {e : Entry} {rest : List Entry} (hs : Matched x s) (hq : s.queue.entries = e :: rest)
    (hu : s.units.get u = none) : Matched x (s.grant u) := by
  rw [grant_queue hq]
  have hother : SearchBut u s.units := fun k _ => hs.search k
  refine startAttempt (s := s.withQueue { s.queue with entries := rest }) hother ?_
  refine (hs.pairs.perm ?_).of_screens rfl
  have hset := Units.entries_set_some hu (beginAttempt (s.withQueue { s.queue with entries := rest }) e 1)
  have hcons : s.allEntries = e :: rest ++ s.units.entries := by rw [State.allEntries, hq]
  rw [hcons, List.cons_append]
  exact List.perm_middle.symm.trans (List.Perm.append_left rest hset.symm)

theorem sweepOne {n : Fin 48} (hs : Matched x s) (h : s.sweepable n = true) : Matched x (s.sweepOne n) := by
  refine ⟨hs.search, ?_⟩
  have hnone : ∀ e ∈ s.allEntries, Entry.ofScreen .evacuation n e = false := by
    simp only [State.sweepable, Bool.and_eq_true, Bool.not_eq_true', State.evacEntryQueued, State.evacEntryInUnit,
      List.any_eq_false] at h
    obtain ⟨⟨_, hqueued⟩, hunit⟩ := h
    intro e he
    rcases List.mem_append.mp he with he | he
    · simpa using hqueued e he
    · simpa using hunit e he
  have hperm : (s.sweepOne n).allEntries.Perm
      (⟨s.takeId, .screen n, .exit, .evacuation, .evacuation⟩ :: s.allEntries) :=
    List.Perm.append_right s.units.entries
      (joinQueue_perm s.queue.entries ⟨s.takeId, .screen n, .exit, .evacuation, .evacuation⟩)
  refine Pairs.perm hperm.symm (Pairs.of_screens (s := s) ⟨hs.pairs.sound, fun k hk => ?_, fun k => ?_⟩ rfl)
  · rw [List.filter_cons_of_neg (by simp [Entry.ofScreen])]
    exact hs.pairs.normal k hk
  · by_cases hk : n = k
    · subst hk
      have hempty : s.allEntries.filter (Entry.ofScreen .evacuation n) = [] :=
        List.filter_eq_nil_iff.mpr fun e he => by simp [hnone e he]
      rw [List.filter_cons]
      split
      · rw [hempty]; exact le_rfl
      · rw [hempty]; exact Nat.zero_le _
    · rw [List.filter_cons_of_neg (by simp [Entry.ofScreen, Origin.screen?, hk])]
      exact hs.pairs.evac k

theorem settleStep {t : State} (h : s.settleStep = some t) (hs : Matched x s) : Matched x t := by
  unfold State.settleStep at h
  split at h
  · next hq hu =>
    cases h
    exact hs.grant hq (freeUnit_get hu)
  · split at h
    · next hn =>
      cases h
      unfold State.sweepNext at hn
      split at hn
      · exact hs.sweepOne (List.find?_some hn)
      · cases hn
    · cases h

theorem settle (hs : Matched x s) : Matched x s.settle := by
  have hloop : ∀ n s, Matched x s → Matched x (State.settleLoop n s) := by
    intro n
    induction n with
    | zero => exact fun _ hs => hs
    | succ n ih =>
      intro s hs
      unfold State.settleLoop
      split
      · exact hs
      · next ht => exact ih _ (settleStep ht hs)
  exact hloop _ s hs

theorem complete (hs : Matched x s) (u : UnitName) : Matched x (s.complete u) := by
  unfold State.complete State.completeAttempt
  split
  · exact hs
  · next a ha =>
    have hother : SearchBut u s.units := fun k _ => hs.search k
    have hfailed : ∀ o, a.resolution = .failed o → o.endsPending = true :=
      fun o ho => absurd ho (searching_resolution (hs.search u a ha) o)
    refine settle ?_
    split
    · split
      · refine startAttempt hother ?_
        rw [State.allEntries, State.withUnits_units, Units.entries_set_same ha (beginAttempt_entry ..)]
        exact hs.pairs
      · exact postFromUnit ha hother hs.pairs (resultOf_checked ..) (.inl (checked_endsPending hfailed))
    · exact postFromUnit ha hother hs.pairs (resultOf_settled ..) (.inl (settled_endsPending hfailed))

/-- Every entry that satisfies a test is ended. Its session goes on being pending only if its screen is excepted. -/
theorem endEntries (hs : Matched x s) {test : Entry → Bool} {o : RouteOutcome}
    (ho : ∀ e, test e = true → o.endsPending = true ∨ (e.cls = .normal → e.origin.screen? = x)) :
    Matched x (s.endEntries test o) := by
  have hqueued : Matched x (s.endQueued test o) := by
    have hfold : ∀ (l k : List Entry) (t : State), (∀ e ∈ l, test e = true) → Pairs x (l ++ k) t →
        Pairs x k (l.foldl (fun s e => s.postFromQueue o e) t) := by
      intro l k
      induction l with
      | nil => exact fun _ _ h => h
      | cons e l ih =>
        intro t hl ht
        refine ih _ (fun b hb => hl b (List.mem_cons_of_mem _ hb)) ?_
        exact (ht.of_screens (t := t.post (.routeResult (emptyResult t e o []))) rfl).hand (resultOf_empty t e o [])
          (ho e (hl e List.mem_cons_self))
    obtain ⟨hqueue, hunits, _⟩ := OutcomesKept.foldl_postFromQueue o (s.queue.entries.filter test)
      (s.withQueue { s.queue with entries := s.queue.entries.filter fun e => !test e })
    have hentries : (s.endQueued test o).allEntries = (s.queue.entries.filter fun e => !test e) ++ s.units.entries := by
      rw [State.allEntries, State.endQueued, hqueue, hunits]
      rfl
    refine ⟨?_, ?_⟩
    · rw [State.endQueued, hunits]
      exact hs.search
    · rw [hentries]
      refine hfold (s.queue.entries.filter test) _ _ (fun e he => (List.mem_filter.mp he).2) ?_
      rw [← List.append_assoc]
      refine (hs.pairs.perm ?_).of_screens rfl
      exact List.Perm.append_right _ (List.filter_append_perm test _).symm
  have habort : ∀ {t : State}, Matched x t → ∀ u, Matched x (t.abortUnit u test o) := by
    intro t ht u
    unfold State.abortUnit
    split
    · exact ht
    · next a ha =>
      split
      · next htest => exact postFromUnit ha (fun k _ => ht.search k) ht.pairs (resultOf_empty ..) (ho _ htest)
      · exact ht
  exact habort (habort hqueued .a) .b

theorem bumpCore (hs : Matched x s) : Matched x s.bumpCore := by
  have hmark : ∀ a : Attempt, a.mark.immediate = a.immediate := fun _ => rfl
  have hscreens : s.bumpCore.screens = s.screens := (Changes.bumpCore s).same .sessions rfl
  have hunits : ∀ k a, s.bumpCore.units.get k = some a → ∃ b, s.units.get k = some b ∧ a.immediate = b.immediate := by
    intro k a ha
    unfold State.bumpCore at ha
    split at ha
    · dsimp only at ha
      split at ha <;> cases k <;>
      · obtain ⟨b, hb, rfl⟩ := Option.map_eq_some_iff.mp ha
        exact ⟨b, hb, hmark b⟩
    · exact ⟨a, ha, rfl⟩
  refine ⟨fun k a ha => ?_, ?_⟩
  · obtain ⟨b, hb, heq⟩ := hunits k a ha
    exact heq.trans (hs.search k b hb)
  · rw [bumpCore_allEntries]
    exact hs.pairs.of_screens hscreens

theorem bump (hs : Matched x s) : Matched x s.bump := by
  unfold State.bump
  split
  · exact hs.bumpCore.settle
  · exact hs.bumpCore

theorem mapSessions {f : ScreenDecl → Session → Session} {p : Session → Prop} (hs : Matched none s)
    (hp : SessionsHold p s) (hf : ∀ d y, p y → PendingSound y → (f d y).pending = y.pending ∧ PendingSound (f d y)) :
    Matched none (s.mapSessions f) := by
  have hboth : SessionsHold (fun y => p y ∧ PendingSound y) s := fun n c hc => ⟨hp n c hc, hs.pairs.sound n c hc⟩
  have hsound : SessionsHold PendingSound (s.mapSessions f) := hboth.mapSessions fun d y hy => (hf d y hy.1 hy.2).2
  have hsame : ∀ n, pendingOf (s.mapSessions f) n = pendingOf s n :=
    pendingOf_mapSessions_same hboth fun d y hy => (hf d y hy.1 hy.2).1
  have hentries := allEntries_of_changes (Changes.mapSessions s f) rfl rfl
  have hunits : (s.mapSessions f).units = s.units := (Changes.mapSessions s f).same .units rfl
  generalize s.mapSessions f = t at hsound hsame hentries hunits
  refine ⟨hunits ▸ hs.search, hsound, fun n hn => ?_, hentries ▸ hs.pairs.evac⟩
  rw [hsame, hentries]
  exact hs.pairs.normal n hn

theorem act {t : State} (h : Act s t) (hs : Matched none s) : Matched none t := by
  cases h with
  | aside h => exact hs.of_parts h.units (congrArg RouteQueue.entries h.queue) h.screens
  | post => exact hs.of_parts rfl rfl rfl
  | bump => exact hs.bump
  | countIdle => exact hs.mapSessions (p := fun _ => True) (fun _ _ _ => trivial) fun _ _ _ hy => ⟨rfl, hy⟩
  | clearFailures => exact hs.of_parts rfl rfl rfl

end Matched

end Sys2Proof.Machine

/-! # Proofs: every step keeps pending routes matched -/

namespace Sys2Proof.Machine

open Sys2Proof.Safety

namespace Matched

variable {x : Option (Fin 48)} {s : State}

/-! ## States with nothing pending -/

/-- No session is pending where no entry is queued or in a unit. -/
theorem of_vacant (hv : s.Vacant) (hp : SessionsHold (fun y => y.pending = none) s) : Matched none s := by
  have hnone := vacant_allEntries hv
  obtain ⟨_, hu⟩ := hv
  refine ⟨fun k a ha => ?_, hp.imp fun y hy h => ?_, fun n _ => ?_, fun n => ?_⟩
  · rw [hu] at ha
    cases k <;> cases ha
  · rw [hy] at h
    cases h
  · have hpending : pendingOf s n = none := by
      unfold pendingOf
      cases hn : s.screens[n] with
      | none => rfl
      | some c => exact hp n c hn
    rw [hnone, hpending]
    exact .refl _
  · rw [hnone]
    exact Nat.zero_le _

theorem of_load (hm : ModesAgree s) (hs : SessionsFit s) (hl : s.map.mode = .load) : Matched none s := by
  refine .of_vacant (vacant_of_load hm hl) (hs.imp fun y hy => ?_)
  obtain ⟨⟨_, _, hpending, _⟩, hload, _⟩ := hy
  cases hp : y.pending with
  | none => rfl
  | some id =>
    have := hpending.mp (by rw [hp]; rfl)
    rw [hload hl] at this
    cases this

/-- With no NORMAL entry queued or in a unit no session is pending. -/
theorem pending_none (hs : Matched none s) (h : ∀ e ∈ s.allEntries, e.cls ≠ .normal) :
    SessionsHold (fun y => y.pending = none) s := by
  intro n c hc
  have hempty : s.allEntries.filter (Entry.ofScreen .normal n) = [] :=
    List.filter_eq_nil_iff.mpr fun e he ht => h e he (Pairs.ofScreen_iff.mp ht).1
  have hperm := hs.pairs.normal n nofun
  rw [hempty, List.map_nil, List.nil_perm] at hperm
  have hpending : pendingOf s n = c.session.pending := by rw [pendingOf, hc, Option.bind_some]
  rw [hpending] at hperm
  exact Option.toList_eq_nil_iff.mp hperm

/-! ## The evacuation events -/

theorem entered (hs : Matched none s) (cause : EvacCause) : Matched none (s.entered cause) := by
  have h0 : Matched none (s.evacTo .active) := hs.of_parts rfl rfl rfl
  have h1 : Matched none ((s.evacTo .active).endEntries (fun e => e.cls == .normal) .evacCancelled) :=
    h0.endEntries fun _ _ => .inl rfl
  have hnormal : ∀ e ∈ ((s.evacTo .active).endEntries (fun e => e.cls == .normal) .evacCancelled).allEntries,
      e.cls ≠ .normal := by
    rw [endEntries_allEntries]
    intro e he
    simpa using (List.mem_filter.mp he).2
  unfold State.entered
  generalize (s.evacTo .active).endEntries (fun e => e.cls == .normal) .evacCancelled = t at h1 hnormal
  have h2 := h1.mapSessions (f := fun _ y => y.toAlert) (h1.pending_none hnormal) fun _ _ hy _ => ⟨hy.symm, nofun⟩
  generalize (t.mapSessions fun _ ses => ses.toAlert) = t1 at h2
  have h3 := h2.of_changes (Changes.holdTimers t1) rfl rfl rfl
  generalize t1.holdTimers = t2 at h3
  have h4 := h3.bumpCore
  generalize t2.bumpCore = t3 at h4
  have h5 := h4.of_changes (Changes.dueAll t3) rfl rfl rfl
  generalize t3.dueAll = t4 at h5
  have h6 := h5.of_changes (Changes.postEvac t4 cause) rfl rfl rfl
  generalize t4.postEvac cause = t5 at h6
  exact h6.of_parts rfl rfl rfl

theorem entryEvent (hs : Matched none s) (cause : EvacCause) : Matched none (s.entryEvent cause) := by
  rw [entryEvent_eq]
  exact (hs.entered cause).settle

theorem exitEvent (hs : Matched none s) : Matched none s.exitEvent := by
  have h0 : Matched none (s.evacTo .inactive) := hs.of_parts rfl rfl rfl
  have h1 : Matched none ((s.evacTo .inactive).endEntries (fun e => e.cls == .evacuation) .evacEnded) := by
    refine h0.endEntries fun e he => .inr fun hn => ?_
    rw [hn] at he
    cases he
  rw [exitEvent_eq]
  refine settle ?_
  unfold State.exited
  generalize (s.evacTo .inactive).endEntries (fun e => e.cls == .evacuation) .evacEnded = t at h1
  have h2 : Matched none t.clearDue := h1.of_parts rfl rfl rfl
  generalize t.clearDue = t1 at h2
  have h3 : Matched none (t1.mapSessions Session.leaveAlert) := by
    refine h2.mapSessions (p := fun _ => True) (fun _ _ _ => trivial) fun d y _ hy => ?_
    unfold Session.leaveAlert
    split
    · next ha =>
      refine ⟨?_, nofun⟩
      cases hp : y.pending with
      | none => rfl
      | some id =>
        have := hy (by rw [hp]; rfl)
        rw [ha] at this
        cases this
    · exact ⟨rfl, hy⟩
  generalize t1.mapSessions Session.leaveAlert = t2 at h3
  have h4 := h3.bumpCore
  generalize t2.bumpCore = t3 at h4
  exact h4.of_parts rfl rfl rfl

theorem raiseEvac (hs : Matched none s) (cause : EvacCause) : Matched none (s.raiseEvac cause) := by
  unfold State.raiseEvac
  split
  · split
    · exact hs.entryEvent cause
    · exact hs.of_parts rfl rfl rfl
  all_goals exact hs

/-! ## One screen's entry ended -/

theorem except (hs : Matched none s) (n : Fin 48) : Matched (some n) s :=
  ⟨hs.search, hs.pairs.sound, fun k _ => hs.pairs.normal k nofun, hs.pairs.evac⟩

/-- The screen's entry is ended, and the acts that follow make no other. -/
theorem endScreenEntry {n : Fin 48} (hs : Matched (some n) s) (o : RouteOutcome) :
    Matched (some n) (s.endScreenEntry n o)
    ∧ ∀ e ∈ (s.endScreenEntry n o).allEntries, Entry.ofScreen .normal n e = false := by
  unfold State.endScreenEntry
  split
  · refine ⟨settle (hs.endEntries fun e he => .inr fun _ => (Pairs.ofScreen_iff.mp he).2), fun e he => ?_⟩
    rcases (RouteMoves.settle _).entries e he with he | ⟨_, hc⟩
    · rw [endEntries_allEntries] at he
      simpa using (List.mem_filter.mp he).2
    · rw [Entry.ofScreen, hc]
      rfl
  · next hnone =>
    rw [Bool.not_eq_true, Option.isSome_eq_false_iff, Option.isNone_iff_eq_none, screenEntry_eq_none] at hnone
    exact ⟨hs, hnone⟩

theorem withdraw {n : Fin 48} {c : Screen} (hs : Matched none s) (hn : s.screens[n] = some c)
    (hsound : SessionSound c.session) :
    Matched (some n) (s.withdraw n c.session)
    ∧ (s.withdraw n c.session).allEntries.filter (Entry.ofScreen .normal n) = [] := by
  unfold State.withdraw
  split
  · have hcleared : Matched (some n) (s.modifySession n Session.clearPending) :=
      ⟨hs.search, hs.pairs.modifySession (fun _ _ => nofun) (.inl rfl)⟩
    obtain ⟨hended, hnone⟩ := hcleared.endScreenEntry .withdrawn
    exact ⟨hended, List.filter_eq_nil_iff.mpr fun e he => by simp [hnone e he]⟩
  · next hstate =>
    refine ⟨hs.except n, ?_⟩
    have hfree : pendingOf s n = none := by
      rw [pendingOf, hn, Option.bind_some]
      cases hp : c.session.pending with
      | none => rfl
      | some id => exact absurd (hsound.2.2.1.mp (by rw [hp]; rfl)) hstate
    have hperm := hs.pairs.normal n nofun
    rw [hfree, Option.toList_none, List.perm_nil, List.map_eq_nil_iff] at hperm
    exact hperm

/-- A request withdraws the session's route and leaves the session pending on nothing. -/
theorem moved {n : Fin 48} {c : Screen} (hs : Matched none s) (hn : s.screens[n] = some c) (hsound : SessionSound c.session)
    (ha : c.session.state ≠ .alert) {f : ScreenDecl → Session → Session}
    (hf : (f c.decl c.session.cleared).pending = none) :
    Matched none ((s.withdraw n c.session).modifySession n f) := by
  obtain ⟨hself, _⟩ := withdraw_sessions hn ha
  obtain ⟨⟨hsearch, hpairs⟩, hnone⟩ := hs.withdraw hn hsound
  generalize s.withdraw n c.session = t at hself hsearch hpairs hnone
  refine ⟨hsearch, Pairs.close (n := n) (hpairs.modifySession (fun c' hc' => ?_) (.inr rfl)) ?_⟩
  · rw [hself] at hc'
    cases hc'
    intro h
    rw [hf] at h
    cases h
  · have hpending : pendingOf (t.modifySession n f) n = none := by
      rw [pendingOf_modifySession, if_pos rfl, hself]
      exact hf
    have hempty : (t.modifySession n f).allEntries.filter (Entry.ofScreen .normal n) = [] := hnone
    rw [hpending, hempty]
    exact .refl _

/-- A change of one session that leaves its pending id and its being ROUTE_PENDING. -/
theorem modified {n : Fin 48} (hs : Matched none s) {f : ScreenDecl → Session → Session}
    (hf : ∀ d y, (f d y).pending = y.pending ∧ (f d y).state = y.state) : Matched none (s.modifySession n f) := by
  refine ⟨hs.search, Pairs.close (n := n) (hs.pairs.modifySession (fun c hc h => ?_) (.inl rfl)) ?_⟩
  · rw [(hf _ _).1] at h
    exact (hf _ _).2.trans (hs.pairs.sound n c hc h)
  · rw [pendingOf_modifySession_same fun d y => (hf d y).1]
    exact hs.pairs.normal n nofun

/-! ## ROUTE -/

/-- An accepted NORMAL entry pairs with its screen's session once the session has the id. -/
theorem accept {n : Fin 48} (hs : Matched (some n) s) (hnone : ∀ e ∈ s.allEntries, Entry.ofScreen .normal n e = false)
    {c : Screen} (hn : s.screens[n] = some c) (d : Dest) (p : Profile) :
    Matched none ((s.accept (.screen n) d p .normal).modifySession n (Session.routeAccepted s.takeId)) := by
  refine ⟨hs.search, ?_⟩
  have hperm : (s.accept (.screen n) d p .normal).allEntries.Perm (⟨s.takeId, .screen n, d, p, .normal⟩ :: s.allEntries) :=
    List.Perm.append_right s.units.entries (joinQueue_perm s.queue.entries ⟨s.takeId, .screen n, d, p, .normal⟩)
  have hjoined : Pairs (some n) (⟨s.takeId, .screen n, d, p, .normal⟩ :: s.allEntries) s := by
    refine ⟨hs.pairs.sound, fun k hk => ?_, fun k => ?_⟩
    · rw [List.filter_cons_of_neg (by simpa [Entry.ofScreen, Origin.screen?] using hk)]
      exact hs.pairs.normal k hk
    · rw [List.filter_cons_of_neg (by simp [Entry.ofScreen])]
      exact hs.pairs.evac k
  refine Pairs.perm hperm.symm (Pairs.close (n := n) ?_ ?_)
  · exact (hjoined.of_screens (t := s.accept (.screen n) d p .normal) rfl).modifySession (fun _ _ _ => rfl) (.inr rfl)
  · have hempty : s.allEntries.filter (Entry.ofScreen .normal n) = [] :=
      List.filter_eq_nil_iff.mpr fun e he => by simp [hnone e he]
    have hpending : pendingOf ((s.accept (.screen n) d p .normal).modifySession n (Session.routeAccepted s.takeId)) n
        = some s.takeId := by
      have hget : (s.accept (.screen n) d p .normal).screens[n] = some c := hn
      rw [pendingOf_modifySession, if_pos rfl, hget]
      rfl
    rw [hpending, List.filter_cons_of_pos (by simp [Entry.ofScreen, Origin.screen?]), hempty]
    exact .refl _

/-- An accepted entry of a node pairs with no session. -/
theorem accept_node (hs : Matched none s) (m : Nat) (d : Dest) (p : Profile) :
    Matched none (s.accept (.node m) d p .normal) := by
  have hperm : (s.accept (.node m) d p .normal).allEntries.Perm (⟨s.takeId, .node m, d, p, .normal⟩ :: s.allEntries) :=
    List.Perm.append_right s.units.entries (joinQueue_perm s.queue.entries ⟨s.takeId, .node m, d, p, .normal⟩)
  refine ⟨hs.search, Pairs.perm hperm.symm (Pairs.of_screens (s := s) ⟨hs.pairs.sound, fun k hk => ?_, fun k => ?_⟩ rfl)⟩
  · rw [List.filter_cons_of_neg (by simp [Entry.ofScreen, Origin.screen?])]
    exact hs.pairs.normal k hk
  · rw [List.filter_cons_of_neg (by simp [Entry.ofScreen, Origin.screen?])]
    exact hs.pairs.evac k

end Matched

theorem countDemand_takeId (s : State) (d : Dest) : (s.countDemand d).takeId = s.takeId := by
  have h := Changes.countDemand s d
  have hq : (s.countDemand d).queue = s.queue := h.same .entries rfl
  have hu : (s.countDemand d).units = s.units := h.same .units rfl
  have hn := h.same .notices rfl
  simp only [Part.same, Prod.mk.injEq] at hn
  unfold State.takeId State.outstandingIds
  rw [hq, hu, hn.1]

/-- The checks of R37 find the screen that is named. -/
theorem routeChecks_declared {a : RouteArgs} {s : State} (h : ∀ q ∈ routeChecks a s, q.1 = true) {n : Fin 48}
    (hn : routeOrigin? a = some (.screen n)) : (s.screens[n]).isSome = true := by
  have hcheck : a.screen.all s.declared = true :=
    h (a.screen.all s.declared, .noWith .notFound [(.field, .key .screen)]) (by simp [routeChecks, existenceChecks])
  unfold routeOrigin? at hn
  split at hn
  · next m hm _ =>
    rw [Option.map_eq_some_iff] at hn
    obtain ⟨k, hk, hkn⟩ := hn
    cases hkn
    rw [hm, Option.all_some, State.declared, hk] at hcheck
    exact hcheck
  · cases hn
  · cases hn

theorem matched_route {s : State} (hs : Matched none s) (a : RouteArgs) : Matched none (routeEffect a s).1 := by
  refine checked_preserves hs fun hpass => ?_
  split
  · next o d ho _ =>
    refine Matched.settle ?_
    cases o with
    | node m =>
      exact (hs.of_changes (Changes.countDemand s d) rfl rfl rfl).accept_node m d _
    | screen n =>
      have hdeclared := routeChecks_declared hpass ho
      obtain ⟨hended, hnone⟩ := (hs.except n).endScreenEntry .superseded
      have hmoves := RouteMoves.endScreenEntry s n .superseded
      have hdecl : ((s.endScreenEntry n .superseded).screens[n]).isSome = true := by
        rw [isSome_of_decls (funext hmoves.keeps.decls)]
        exact hdeclared
      have hsup : s.supersede (.screen n) = s.endScreenEntry n .superseded := rfl
      rw [hsup]
      generalize s.endScreenEntry n .superseded = s1 at hended hnone hdecl
      have hch := Changes.countDemand s1 d
      have hcounted := hended.of_changes hch rfl rfl rfl
      have hentries := allEntries_of_changes hch rfl rfl
      have hscreens : (s1.countDemand d).screens = s1.screens := hch.same .sessions rfl
      obtain ⟨c, hc⟩ := Option.isSome_iff_exists.mp hdecl
      rw [← countDemand_takeId s1 d]
      exact hcounted.accept (hentries ▸ hnone) (by rw [hscreens]; exact hc) d _
  · exact hs

/-! ## The invariant -/

theorem open_pending (x : Session) (p : Page) : (x.open p).pending = x.pending := rfl

theorem goHome_pending (x : Session) : x.goHome.pending = x.pending := rfl

theorem settleOnTop_pending (x : Session) : x.settleOnTop.pending = x.pending := by
  unfold Session.settleOnTop
  repeat' split
  all_goals rfl

theorem back_pending (x : Session) (b : Bool) : (x.back b).pending = x.pending := by
  unfold Session.back
  split
  · split
    · rfl
    · exact settleOnTop_pending x
  · cases b <;> exact settleOnTop_pending _

theorem matched_takeRequest_withdrawn {s : State} (hs : Matched none s) (hfit : SessionsFit s) {n : Fin 48} {c : Screen}
    (hn : s.screens[n] = some c) (hd : c.session.state ≠ .dormant) (ha : c.session.state ≠ .alert) (x : ReplyExtras)
    {f : Session → Session} (hf : ∀ y, (f y).pending = y.pending) : Matched none (takeRequest s n c true x f).1 := by
  rw [takeRequest_fst, if_pos rfl]
  obtain ⟨hsound, _⟩ := hfit n c hn
  exact hs.moved hn hsound ha ((hf _).trans (movable_cleared hsound hd ha).pending)

theorem matched_takeRequest_kept {s : State} (hs : Matched none s) (n : Fin 48) (c : Screen) (x : ReplyExtras)
    {f : Session → Session} (hf : ∀ y, (f y).pending = y.pending ∧ (f y).state = y.state) :
    Matched none (takeRequest s n c false x f).1 := by
  rw [takeRequest_fst, if_neg Bool.false_ne_true]
  exact hs.modified fun _ y => hf y

theorem matched_idleExpires {s : State} (hs : Matched none s) (hfit : SessionsFit s) (n : Fin 48) :
    Matched none (s.idleExpires n) := by
  unfold State.idleExpires
  split
  · exact hs
  · next c hn =>
    split
    · next hidle =>
      obtain ⟨hsound, _⟩ := hfit n c hn
      have hruns : ∀ {st : SessionState}, st = .alert ∨ st = .dormant → c.session.state ≠ st := by
        intro st hst h
        have := hsound.2.2.2.2.2.2.2 (by rw [h]; exact hst)
        rw [this] at hidle
        cases hidle
      exact hs.moved hn hsound (hruns (.inl rfl)) (movable_cleared hsound (hruns (.inr rfl)) (hruns (.inl rfl))).pending
    · exact hs

theorem matched_move (c : Instr) {s : State} (hm : ModesAgree s) (hfit : SessionsFit s) (hs : Matched none s) :
    Matched none (moveOf c s) := by
  have hacts : ∀ {c : Instr}, movesRoutes c = false → Matched none (moveOf c s) := fun h =>
    (moveOf_acts _ s h).keeps (p := Matched none) Matched.act hs
  have hload : ∀ {c : Instr}, (moveOf c s).map.mode = .load → Matched none (moveOf c s) := fun h =>
    .of_load (modesAgree_move _ hm) (sessionsFit_move _ hm hfit) h
  have hkept : ∀ {c : Instr}, c ≠ .hardReset → (touches c).contains .mode = false → s.map.mode = .load →
      (moveOf c s).map.mode = .load := fun hc hl h =>
    (show (moveOf _ s).map.mode = s.map.mode from (moveOf_changes _ s hc).same .mode hl).trans h
  have hscreens : ∀ {c : Instr} {l : List (Bool × Answer)} {take : State → State × Answer}, c ≠ .hardReset →
      (touches c).contains .mode = false → inLoad s ∈ l → moveOf c s = (checked l s take).1 →
      Matched none (moveOf c s) := by
    intro c l take hc hl hmem he
    by_cases h : s.map.mode = .load
    · exact hload (hkept hc hl h)
    · rw [he]
      exact checked_preserves hs fun hpass => absurd (beq_iff_eq.mp (hpass _ hmem)) h
  cases c with
  | hardReset => exact hload rfl
  | fetch => exact Matched.settle (hs.of_parts (t := s.fetched) rfl rfl rfl)
  | start =>
    refine checked_preserves hs fun hpass => ?_
    have hl : s.map.mode = .load := beq_iff_eq.mp (hpass _ List.mem_cons_self)
    have hfresh : SessionsHold (fun y => y.pending = none) s.enterService := by
      have h := SessionsHold.mapSessions (s := s.withMap { s.map with mode := .service, generation := 0 })
        (p := fun _ => True) (q := fun y => y.pending = none) (f := fun d ses => ses.toIdle d) (fun _ _ _ => rfl)
        fun _ _ _ => trivial
      exact h
    have hvacant := vacant_of_load hm hl
    have hv : s.enterService.Vacant := hvacant
    have hentered : Matched none s.enterService := .of_vacant hv hfresh
    split
    · exact hs
    · dsimp only
      split
      · exact hentered.entryEvent .start
      · exact hentered
  | stop =>
    by_cases h : s.map.mode = .service
    · refine checked_preserves hs fun _ => ?_
      exact .of_load (modesAgree_leaveService hm h) (sessionsFit_leaveService s) (leaveService_mode s)
    · exact checked_preserves hs fun hpass =>
        absurd (beq_iff_eq.mp (hpass (s.inService, .no .wrongMode) List.mem_cons_self)) h
  | mapClear => exact hscreens nofun rfl List.mem_cons_self rfl
  | screenDeclare => exact hscreens nofun rfl List.mem_cons_self rfl
  | screenUndeclare => exact hscreens nofun rfl List.mem_cons_self rfl
  | route _ a => exact matched_route hs a
  | routeCancel =>
    refine checked_preserves hs fun _ => ?_
    split
    · exact hs
    · split
      · exact hs
      · exact (hs.endEntries fun _ _ => .inl rfl).settle
  | completionEvent u => exact hs.complete u
  | nav _ n a =>
    refine sessionRequest_preserves hs fun k c hc hd ha => ?_
    split
    · exact hs
    · exact matched_takeRequest_withdrawn hs hfit hc hd ha _ (open_pending · _)
  | back | backRestore =>
    exact sessionRequest_preserves hs fun _ _ hc hd ha =>
      matched_takeRequest_withdrawn hs hfit hc hd ha _ (back_pending · _)
  | home =>
    exact sessionRequest_preserves hs fun _ _ hc hd ha => matched_takeRequest_withdrawn hs hfit hc hd ha _ goHome_pending
  | prefs | tap =>
    exact sessionRequest_preserves hs fun _ _ _ _ _ => matched_takeRequest_kept hs _ _ _ fun _ => ⟨rfl, rfl⟩
  | idleTimerExpiry n => exact matched_idleExpires hs hfit n
  | evacInRise =>
    simp only [moveOf]
    split
    · exact (hs.of_parts (t := s.withEvac { s.evac with debounced := true }) rfl rfl rfl).raiseEvac .line
    · exact hs
  | evac => exact hs.raiseEvac .host
  | evacEnd =>
    refine checked_preserves hs fun _ => ?_
    dsimp only
    split
    · exact hs.exitEvent
    · exact hs.of_parts rfl rfl rfl
    · exact hs
  | _ => exact hacts rfl

/-- Settles O17: an entry that is ended hands its outcome on before it leaves, and what leaves a session pending, a
superseding or a withdrawal, is followed by the request that sets the pending id anew. -/
theorem everyStepKeepsPendingRoutesMatched : Obligations.EveryStepKeepsPendingRoutesMatched :=
  keptByEveryStep_of_move (fun _ _ h => h)
    (fun s c h => by
      obtain ⟨⟨hm, hfit⟩, hmatched⟩ := pendingAgrees_iff.mp h
      exact pendingAgrees_iff.mpr
        ⟨⟨modesAgree_of_changes (Changes.taken s c) rfl hm, hfit⟩, hmatched.of_parts rfl rfl rfl⟩)
    (fun s tag a h => by
      obtain ⟨⟨hm, hfit⟩, hmatched⟩ := pendingAgrees_iff.mp h
      exact pendingAgrees_iff.mpr
        ⟨⟨modesAgree_of_changes (Changes.reply s tag a) rfl hm, hfit⟩, hmatched.of_parts rfl rfl rfl⟩)
    fun c _ h => by
      obtain ⟨⟨hm, hfit⟩, hmatched⟩ := pendingAgrees_iff.mp h
      exact pendingAgrees_iff.mpr ⟨⟨modesAgree_move c hm, sessionsFit_move c hm hfit⟩, matched_move c hm hfit hmatched⟩

end Sys2Proof.Machine

/-! # Proofs: the step, the hard reset and the state it leaves -/

namespace Sys2Proof.Machine

open Sys2Proof.Safety

/-! ## The step -/

/-- Settles O1. -/
theorem stepRunsTheFrontCommand : Obligations.StepRunsTheFrontCommand := by
  intro c rest s h
  rw [step, h]

/-- Settles O2, by what the line held reads as. -/
theorem stepAnswersTheHeldLine : Obligations.StepAnswersTheHeldLine := by
  intro s hpending
  refine ⟨fun hhand => by rw [step, hpending, hhand], fun line hhand => ?_⟩
  have hstep : step s = exec (lineCommand line) s := by rw [step, hpending, hhand]
  refine ⟨fun c hc => ?_, fun hno => ?_⟩
  · rw [hstep, lineCommand, hc]
  · rw [hstep]
    unfold lineCommand
    split
    · next c hc => exact absurd hc (hno c)
    all_goals rfl

/-! ## The hard reset -/

theorem resetKeepingLines_eq (g : Gate) : g.resetKeepingLines =
    { mode := .off, src := none, dst := none, invert := false, stuckLimit := 30, state := .clear, inbound := 0
      outbound := 0, fault := false, a := ⟨g.a.line, false, none⟩, b := ⟨g.b.line, false, none⟩, recovery := false } := rfl

/-- Settles O3, block by block. -/
theorem hardResetLeaves : Obligations.HardResetLeaves := by
  intro s
  have hlines : ∀ g : Fin 32, s.hardReset.gates[g] = s.gates[g].resetKeepingLines := fun g => mapFin_get ..
  exact ⟨s.hardReset, rfl, ⟨rfl, rfl, rfl, rfl, rfl, rfl, fun _ => Vector.getElem_replicate ..⟩, rfl, rfl,
    fun _ => ⟨Vector.getElem_replicate .., Vector.getElem_replicate ..⟩, ⟨rfl, rfl, rfl, rfl, rfl⟩,
    fun g => (hlines g).trans (resetKeepingLines_eq _), fun _ => Vector.getElem_replicate .., ⟨rfl, rfl, rfl, rfl⟩,
    fun _ => Vector.getElem_replicate .., ⟨fun _ => Vector.getElem_replicate .., rfl⟩, ⟨rfl, rfl, rfl, rfl⟩, rfl,
    fun _ => Vector.getElem_replicate .., rfl, rfl, rfl⟩

/-! ## The state after a hard reset -/

theorem limitsKept_reset : LimitsKept State.reset := ⟨rfl, Nat.zero_le _, Nat.zero_le _, Nat.zero_le _⟩

theorem idsDistinct_reset : IdsDistinct State.reset := ⟨List.nodup_nil, nofun, by decide⟩

theorem countersInRange_reset : CountersInRange State.reset := by
  refine ⟨fun z => ?_, fun g => ?_, nofun, Nat.zero_le _, Nat.zero_le _, by decide, by decide⟩
  · have hget : State.reset.census.zones[z] = Zone.reset := Vector.getElem_replicate ..
    rw [hget]
    exact Nat.zero_le _
  · have hget : State.reset.gates[g] = Gate.reset := Vector.getElem_replicate ..
    rw [hget]
    exact ⟨Nat.zero_le _, Nat.zero_le _⟩

theorem gatesSound_reset : GatesSound State.reset := by
  intro g
  have hget : State.reset.gates[g] = Gate.reset := Vector.getElem_replicate ..
  rw [hget]
  exact gateSound_reset Gate.reset

theorem censusSound_reset : CensusSound State.reset := by
  refine ⟨fun z => ?_, ⟨by decide, by decide⟩, Nat.zero_le _, nofun⟩
  have hget : State.reset.census.zones[z] = Zone.reset := Vector.getElem_replicate ..
  exact hget ▸ zoneSound_reset

theorem watchesSound_reset : WatchesSound State.reset := by
  have hget : ∀ w : Fin 8, State.reset.watches.watches[w] = Watch.reset := fun w => Vector.getElem_replicate ..
  refine ⟨fun w => hget w ▸ watchSound_reset, congrArg Watch.chained (hget 0), fun l w h => ?_⟩
  have hnone : State.reset.watches.alerts[l] = none := Vector.getElem_replicate ..
  rw [hnone] at h
  cases h

theorem modesAgree_reset : ModesAgree State.reset := by
  refine ⟨nofun, nofun, fun n h => ?_, nofun, fun _ => rfl, fun _ => ⟨rfl, rfl⟩⟩
  have hclear : State.reset.evac.due[n] = false := Vector.getElem_replicate ..
  rw [hclear] at h
  cases h

theorem timersSound_state_reset : TimersSound State.reset := by
  have hget : ∀ t : Fin 8, State.reset.clock.timers[t] = CadenceTimer.reset := fun t => Vector.getElem_replicate ..
  refine ⟨fun t => hget t ▸ timerSound_reset, fun _ t => congrArg CadenceTimer.state (hget t), fun t u h => ?_⟩
  rw [hget] at h
  cases h

theorem sessionsFit_reset : SessionsFit State.reset := by
  intro n c hc
  have hnone : State.reset.screens[n] = none := Vector.getElem_replicate ..
  rw [hnone] at hc
  cases hc

/-- Settles O4: nothing is queued, declared or defined, and every record has its reset value. -/
theorem resetMeetsEveryInvariant : Obligations.ResetMeetsEveryInvariant :=
  have hsessions : SessionsAgree State.reset := ⟨modesAgree_reset, sessionsFit_reset⟩
  ⟨limitsKept_reset, idsDistinct_reset, quiet_of_load modesAgree_reset rfl, countersInRange_reset,
    ⟨List.Pairwise.nil, List.Pairwise.nil, List.Pairwise.nil⟩, indexAgrees_empty rfl rfl,
    ⟨List.Pairwise.nil, List.Pairwise.nil, nofun⟩, costTablesKept_reset, gatesSound_reset, censusSound_reset,
    watchesSound_reset, modesAgree_reset, nofun, timersSound_state_reset, nofun, hsessions,
    pendingAgrees_iff.mpr ⟨hsessions, .of_load modesAgree_reset sessionsFit_reset rfl⟩,
    ⟨Nat.zero_le _, fun _ => rfl, nofun⟩⟩

end Sys2Proof.Machine

/-! # Proofs: puts, removals and reads of the map store -/

namespace Sys2Proof.Machine

open Sys2Proof.Safety

/-! ## Requests that pass or fail their checks -/

theorem checked_of_pass {checks : List (Bool × Answer)} {s : State} {take : State → State × Answer}
    (h : ∀ q ∈ checks, q.1 = true) : checked checks s take = take s := by
  rw [checked, (firstFailing_none checks).mpr h]

/-- A request whose effect is known. -/
theorem exec_of_effect {c : Instr} {tag : Nat} {s t : State} {a : Answer} {effect : State → State × Answer}
    (hexec : exec c s = respond c tag s effect) (h : effect (s.taken c) = (t, a)) : exec c s = .next (t.reply tag a) := by
  rw [hexec, respond_next, h]

/-- A request that passes every check is taken. -/
theorem exec_of_pass {c : Instr} {tag : Nat} {s t : State} {a : Answer} {effect : State → State × Answer}
    {checks : List (Bool × Answer)} {take : State → State × Answer} (hexec : exec c s = respond c tag s effect)
    (hchecks : effect (s.taken c) = checked checks (s.taken c) take) (hpass : ∀ q ∈ checks, q.1 = true)
    (h : take (s.taken c) = (t, a)) : exec c s = .next (t.reply tag a) :=
  exec_of_effect hexec (by rw [hchecks, checked_of_pass hpass, h])

/-- A request that fails a check is refused with the answer of the first that fails. -/
theorem exec_of_fail {c : Instr} {tag : Nat} {s : State} {a : Answer} {effect : State → State × Answer}
    {checks : List (Bool × Answer)} {take : State → State × Answer} (hexec : exec c s = respond c tag s effect)
    (hchecks : effect (s.taken c) = checked checks (s.taken c) take) (h : firstFailing checks = some a) :
    exec c s = .next ((s.taken c).reply tag a) :=
  exec_of_effect hexec (by rw [hchecks, checked, h])

/-! ## Fields -/

theorem optLe_iff {top : Nat} {x : Option Nat} : optLe top x = true ↔ ∀ n ∈ x, n ≤ top := by
  cases x <;> simp [optLe]

theorem optLe_none (top : Nat) : optLe top none = true := rfl

theorem optLe_some {top n : Nat} (h : n ≤ top) : optLe top (some n) = true := decide_eq_true h

theorem optWithin_iff {lo hi : Nat} {x : Option Nat} : optWithin lo hi x = true ↔ ∀ n ∈ x, lo ≤ n ∧ n ≤ hi := by
  cases x <;> simp [optWithin, within]

theorem optWordLe_iff {top : Nat} {x : Option (Option Nat)} :
    optWordLe top x = true ↔ ∀ n, x = some (some n) → n ≤ top := by
  rcases x with _ | _ | n <;> simp [optWordLe]

theorem optAll_iff {α : Type} {p : α → Bool} {x : Option α} : x.all p = true ↔ ∀ y ∈ x, p y = true := by
  cases x <;> simp

/-- A form flag left out or given as 0 (log entry 7). -/
theorem flag_unset {x : Option Nat} (h : ∀ v ∈ x, v = 0) : flagSet x = false ∧ optLe 1 x = true := by
  cases x with
  | none => exact ⟨rfl, rfl⟩
  | some n =>
    obtain rfl := h n rfl
    exact ⟨rfl, rfl⟩

theorem optFin_eq_bind (n : Nat) (x : Option Nat) : optFin n x = x.bind (toFin? n) := by
  cases x <;> rfl

theorem labelOk_iff {t : Text} : labelOk t = true ↔ 1 ≤ t.length ∧ t.length ≤ 32 := by
  simp [labelOk, within]

theorem inLoad_taken {s : State} {c : Instr} (h : s.map.mode = .load) : (inLoad (s.taken c)).1 = true := by
  simp [inLoad, h]

/-! ## Puts -/

/-- Settles O19. -/
theorem nodePutDefinesTheNode : Obligations.NodePutDefinesTheNode := by
  intro s tag i a k l hmode hi hk hl hlo hhi hzone hlabel hremove hread
  obtain ⟨hremove, hremoveRange⟩ := flag_unset hremove
  obtain ⟨hread, hreadRange⟩ := flag_unset hread
  have hrecord : nodeRecord? a = some { kind := k, level := l, zone := a.zone.bind (toFin? 32), label := a.label } := by
    rw [nodeRecord?, hk, hl, ← optFin_eq_bind]
  have hranges : nodeInRange i a = true := by
    simp [nodeInRange, hi, hl, levelOk, hlo, hhi, optLe_iff.mpr hzone, hremoveRange, hreadRange,
      optAll_iff.mpr fun t ht => labelOk_iff.mpr (hlabel t ht)]
  refine ⟨_, exec_of_pass rfl rfl ?_ ?_, fun j => Table.get_put s.map.nodes i j _⟩
  · simp only [List.forall_mem_cons, inLoad_taken hmode, inRange, hranges, agrees, hrecord, hremove, hread]
    simp
  · simp only [hrecord] <;> rfl

/-- Settles O20. -/
theorem segPutDefinesTheSegment : Obligations.SegPutDefinesTheSegment := by
  intro s tag i a x y len k hmode hi hx hy hxle hyle hne hlen hlo hhi hk hzone hgroup htrim hremove hread
  obtain ⟨hremove, hremoveRange⟩ := flag_unset hremove
  obtain ⟨hread, hreadRange⟩ := flag_unset hread
  have hrecord : segRecord? s.map a = some
      { src := x, dst := y, length := len, kind := k
        zone := match a.zone with
          | none => (s.map.nodes.get x).bind Node.zone
          | some none => none
          | some (some z) => toFin? 32 z
        group := a.group.bind (toFin? 16), state := a.state.getD .opened, trim := a.trim.getD 0 } := by
    rw [segRecord?, hx, hy, hlen, hk, ← optFin_eq_bind]
    rcases hz : a.zone with _ | _ | z <;> simp [segZoneNow, hz, MapStore.nodeZone, optFin]
  have hranges : segInRange i a = true := by
    simp [segInRange, hi, hx, hy, optLe_some hxle,
      optLe_some hyle, segEndsDiffer, hne, optWithin, within, hlen, hlo, hhi,
      optWordLe_iff.mpr hzone, optLe_iff.mpr fun g hg => (hgroup g hg).1, optLe_iff.mpr htrim, hremoveRange, hreadRange]
  have hagrees : segGroupAgrees a = true := by
    unfold segGroupAgrees
    cases hg : a.group with
    | none => rfl
    | some g => simp [hk, (hgroup g hg).2]
  refine ⟨_, exec_of_pass rfl rfl ?_ ?_, fun j => Table.get_put s.map.segs i j _⟩
  · simp only [List.forall_mem_cons, inLoad_taken hmode, inRange, hranges, agrees, State.taken_map, hrecord, hagrees,
      hremove, hread]
    simp
  · simp only [State.taken_map, hrecord] <;> rfl

/-- The week of a put: all of D0 to D6, or none (R7). -/
theorem weekOf_eq {days : Vector (Option DayEntry) 7} {week : Option (Vector DayEntry 7)}
    (h : ∀ n : Fin 7, days[n] = week.map fun w => w[n]) : weekWhole days = true ∧ weekOf? days = week := by
  have hall : ∀ p : Option DayEntry → Bool, days.toList.all p = true ↔ ∀ n : Fin 7, p days[n] = true := by
    intro p
    rw [List.all_eq_true]
    constructor
    · exact fun hp n => hp _ (Vector.mem_toList_iff.mpr (Vector.getElem_mem n.isLt))
    · intro hp x hx
      obtain ⟨i, hi, rfl⟩ := Vector.mem_iff_getElem.mp (Vector.mem_toList_iff.mp hx)
      exact hp ⟨i, hi⟩
  cases week with
  | none =>
    have hnone : days.toList.all Option.isNone = true := (hall _).mpr fun n => by rw [h n]; rfl
    have hsome : ¬ days.toList.all Option.isSome = true := fun hs => by
      have := (hall _).mp hs 0
      rw [h 0] at this
      cases this
    exact ⟨by rw [weekWhole, hnone, Bool.or_true], by rw [weekOf?, if_neg hsome]⟩
  | some w =>
    have hsome : days.toList.all Option.isSome = true := (hall _).mpr fun n => by rw [h n]; rfl
    refine ⟨by rw [weekWhole, hsome, Bool.true_or], ?_⟩
    rw [weekOf?, if_pos hsome]
    refine congrArg some (Vector.ext fun i hi => ?_)
    have hget := mapFin_get (fun _ d => Option.getD d DayEntry.closed) days ⟨i, hi⟩
    rw [h] at hget
    exact hget

/-- Settles O21. -/
theorem listingPutDefinesTheListing : Obligations.ListingPutDefinesTheListing := by
  intro s tag i a name cat doors week o hmode hi hname hname1 hname32 hcat hcatle hdoors hdoors1 hdoors4 hnodup hdoorsle
    hdays hweek hover htarget hremove
  obtain ⟨hremove, hremoveRange⟩ := flag_unset hremove
  obtain ⟨hwhole, hweekOf⟩ := weekOf_eq hdays
  obtain ⟨l, hl, hrecord⟩ : ∃ l, l = { name := name, category := cat, doors := doors, override := o
                                       demand := ((s.map.listings.get i).map Listing.demand).getD 0
                                       hours := week.map fun w => { week := w, state := schedNow s.clock.clock w } }
      ∧ listingRecord? s.clock.clock (s.demandOf i) a = some l := by
    refine ⟨_, rfl, ?_⟩
    rw [listingRecord?, hname, hcat, hdoors, hover, hweekOf]
    rfl
  have hranges : listingInRange i a = true := by
    have hdayRange : (a.days.toList.all fun d => d.all dayOk) = true := by
      rw [List.all_eq_true]
      intro d hd
      obtain ⟨n, hn, rfl⟩ := Vector.mem_iff_getElem.mp (Vector.mem_toList_iff.mp hd)
      refine optAll_iff.mpr fun e he => ?_
      have hget := hdays ⟨n, hn⟩
      cases week with
      | none =>
        rw [show a.days[n] = none from hget] at he
        cases he
      | some w =>
        rw [show a.days[n] = some w[n] from hget] at he
        cases he
        exact hweek w rfl ⟨n, hn⟩
    simp [listingInRange, hi, hname, labelOk, within, hname1, hname32, hcat,
      optLe_some hcatle, hdoors, doorsOk, hdoors1, hdoors4, hdayRange,
      optLe_iff.mpr htarget, hremoveRange]
    exact hdoorsle
  have hrecord' : listingRecord? (s.taken (.listingPut tag i a)).clock.clock ((s.taken (.listingPut tag i a)).demandOf i) a
      = some l := hrecord
  refine ⟨s.map.listings.put i l, renameIn s.map.nameIndex i ((s.map.listings.get i).map Listing.name) l.name,
    exec_of_pass rfl rfl ?_ ?_, fun j => ?_, fun hindex => ?_⟩
  · simp only [List.forall_mem_cons, hwhole, inLoad_taken hmode, inRange, hranges, agrees, hrecord']
    simp [hdoors, hnodup, hremove]
  · simp only [hrecord'] <;> rfl
  · rw [Table.get_put, hl]
    rfl
  · obtain ⟨_, hsorted, hmem⟩ := indexAgrees_put hindex i l
    exact ⟨hsorted, hmem⟩

/-! ## Screens -/

/-- Settles O22. -/
theorem screenDeclareMakesTheSession : Obligations.ScreenDeclareMakesTheSession := by
  intro s tag n a p hmode hp hple hcadence hlang hremove hread
  obtain ⟨hremove, hremoveRange⟩ := flag_unset hremove
  obtain ⟨hread, hreadRange⟩ := flag_unset hread
  have hranges : screenInRange n a = true := by
    have hn : n.val ≤ 47 := Nat.le_of_lt_succ n.isLt
    simp [screenInRange, hn, hp, optLe_some hple, optWordLe_iff.mpr hcadence, optLe_iff.mpr hlang, hremoveRange, hreadRange]
  have hcad : a.cadence.bind (optFin 8) = (a.cadence.bind id).bind (toFin? 8) := by
    rcases a.cadence with _ | _ | t <;> rfl
  have hidle : clampTo 15 600 (a.idle.getD 90) = max 15 (min 600 (a.idle.getD 90)) := rfl
  obtain ⟨d, hd, hrecord⟩ : ∃ d : ScreenDecl, (d.point = p ∧ d.language = a.language.getD 0
      ∧ d.cadence = (a.cadence.bind id).bind (toFin? 8) ∧ d.idleTimeout = max 15 (min 600 (a.idle.getD 90)))
      ∧ screenRecord? a = some d := by
    refine ⟨_, ?_, by rw [screenRecord?, hp, Option.map_some]⟩
    exact ⟨rfl, rfl, hcad, hidle⟩
  have hclamped : flagVal (screenClamped a) = .num (match a.idle with
      | none => 0
      | some x => if 15 ≤ x ∧ x ≤ 600 then 0 else 1) := by
    unfold screenClamped
    cases hi : a.idle with
    | none => rfl
    | some x =>
      by_cases hx : 15 ≤ x ∧ x ≤ 600
      · simp [optWithin, within, hx, flagVal, bit]
      · have : within 15 600 x = false := by simpa [within] using hx
        simp [optWithin, this, hx, flagVal, bit]
  refine ⟨d, hd, exec_of_pass rfl rfl ?_ ?_⟩
  · simp only [List.forall_mem_cons, inLoad_taken hmode, inRange, hranges, agrees, hrecord, hremove, hread]
    simp
  · simp only [toFin?_val, hrecord, hclamped, modifyAt, State.taken_screens]
    cases hold : s.screens[n] <;> rfl

end Sys2Proof.Machine

/-! # Proofs: removals and reads -/

namespace Sys2Proof.Machine

open Sys2Proof.Safety

/-- Settles O23. -/
theorem removalsUndefineTheRecord : Obligations.RemovalsUndefineTheRecord := by
  intro s tag i hmode
  refine ⟨fun n hn hi => ?node, fun g hg hi => ?seg, fun l hl hi => ?listing, fun n c hn => ?screen, ?clear⟩
  case node =>
    have hranges : nodeInRange i { remove := some 1 } = true := by simp [nodeInRange, hi, optLe]
    refine ⟨_, exec_of_pass rfl rfl ?_ rfl, fun j => Table.get_erase s.map.nodes i j⟩
    simp only [List.forall_mem_cons, inLoad_taken hmode, inRange, hranges, State.taken_map, hn, exists?, Option.isSome_some]
    exact ⟨trivial, trivial, rfl, trivial, nofun⟩
  case seg =>
    have hranges : segInRange i { remove := some 1 } = true := by
      simp [segInRange, hi, optLe, optWithin, optWordLe, segEndsDiffer]
    refine ⟨_, exec_of_pass rfl rfl ?_ rfl, fun j => Table.get_erase s.map.segs i j⟩
    simp only [List.forall_mem_cons, inLoad_taken hmode, inRange, hranges, State.taken_map, hg, exists?, Option.isSome_some]
    exact ⟨trivial, trivial, rfl, trivial, nofun⟩
  case listing =>
    have hranges : listingInRange i { remove := some 1 } = true := by
      simp [listingInRange, hi, optLe]
    refine ⟨_, _, exec_of_pass rfl rfl ?_ rfl, fun j => Table.get_erase s.map.listings i j, fun e => mem_removeName⟩
    simp only [List.forall_mem_cons, inLoad_taken hmode, inRange, hranges, State.taken_map, hl, exists?, Option.isSome_some]
    exact ⟨trivial, trivial, rfl, trivial, nofun⟩
  case screen =>
    have hranges : screenInRange n { remove := some 1 } = true := by
      have hle : n.val ≤ 47 := Nat.le_of_lt_succ n.isLt
      simp [screenInRange, hle, optLe, optWordLe]
    refine exec_of_pass rfl rfl ?_ ?_
    · simp only [List.forall_mem_cons, inLoad_taken hmode, inRange, hranges]
      exact ⟨trivial, trivial, rfl, nofun⟩
    · simp only [toFin?_val, State.taken_screens, hn, Option.isSome_some, if_true]
  case clear =>
    refine ⟨((s.taken (.mapClear tag)).withMap s.map.cleared).withScreens (Vector.replicate 48 none),
      exec_of_pass rfl rfl ?_ rfl, rfl, fun k => Vector.getElem_replicate .., fun n => Vector.getElem_replicate .., rfl⟩
    simp only [List.forall_mem_cons, inLoad_taken hmode]
    exact ⟨trivial, nofun⟩

theorem toList_eight {α : Type} (v : Vector α 8) : v.toList = [v[0], v[1], v[2], v[3], v[4], v[5], v[6], v[7]] := by
  obtain ⟨⟨l⟩, h⟩ := v
  match l, h with
  | [_, _, _, _, _, _, _, _], _ => rfl

theorem toList_three {α : Type} (v : Vector α 3) : v.toList = [v[0], v[1], v[2]] := by
  obtain ⟨⟨l⟩, h⟩ := v
  match l, h with
  | [_, _, _], _ => rfl

/-- Settles O24. -/
theorem recordReadsReportWhatIsStored : Obligations.RecordReadsReportWhatIsStored := by
  intro s tag i
  refine ⟨fun n hn hi => ?node, fun g hg hi => ?seg, fun n c hn => ?screen, fun g => ?wait, fun p k => rfl, fun p => ?paces,
    fun p c => rfl, fun p => ?mults⟩
  case node =>
    have hranges : nodeInRange i { read := some 1 } = true := by simp [nodeInRange, hi, optLe]
    refine exec_of_pass rfl rfl ?_ ?_
    · simp only [List.forall_mem_cons, inRange, hranges]
      exact ⟨trivial, rfl, nofun⟩
    · simp only [State.taken_map, hn] <;> rfl
  case seg =>
    have hranges : segInRange i { read := some 1 } = true := by
      simp [segInRange, hi, optLe, optWithin, optWordLe, segEndsDiffer]
    refine exec_of_pass rfl rfl ?_ ?_
    · simp only [List.forall_mem_cons, inRange, hranges]
      exact ⟨trivial, rfl, nofun⟩
    · simp only [State.taken_map, hg] <;> rfl
  case screen =>
    have hranges : screenInRange n { read := some 1 } = true := by
      have hle : n.val ≤ 47 := Nat.le_of_lt_succ n.isLt
      simp [screenInRange, hle, optLe, optWordLe]
    refine exec_of_pass rfl rfl ?_ ?_
    · simp only [List.forall_mem_cons, inRange, hranges]
      exact ⟨trivial, rfl, nofun⟩
    · simp only [toFin?_val, State.taken_screens, hn] <;> rfl
  case wait =>
    refine exec_of_effect (effect := liftWaitReadEffect g.val) rfl ?_
    simp only [liftWaitReadEffect, toFin?_val, State.taken_map]
  case paces =>
    refine exec_of_effect (effect := paceReadEffect p none) rfl ?_
    simp only [paceReadEffect, State.taken_map, toList_eight] <;> rfl
  case mults =>
    refine exec_of_effect (effect := multReadEffect p none) rfl ?_
    simp only [multReadEffect, State.taken_map, toList_three] <;> rfl

end Sys2Proof.Machine

/-! # Proofs: the bump, dynamic edits and directory queries -/

namespace Sys2Proof.Machine

open Sys2Proof.Safety

/-! ## The bump (R20 to R22) -/

theorem screen?_eq_some {o : Origin} {n : Fin 48} : o.screen? = some n ↔ o = .screen n := by
  cases o <;> simp [Origin.screen?]

theorem evacEntryQueued_eq_false {s : State} {n : Fin 48} :
    s.evacEntryQueued n = false ↔ ∀ e ∈ s.queue.entries, ¬ (e.cls = .evacuation ∧ e.origin = .screen n) := by
  simp only [State.evacEntryQueued, List.any_eq_false, Pairs.ofScreen_iff, screen?_eq_some]

/-- What a bump makes of the due flags once the generation and the units are marked (R22). -/
theorem dueMarked_iff (x : State) (n : Fin 48) :
    (if x.evacActive then x.withEvac { x.evac with due := x.dueAfterBump } else x).evac.due[n] = true ↔
      x.evac.due[n] = true ∨ (x.evac.state = .active ∧ x.screens[n].isSome = true
        ∧ ∀ e ∈ x.queue.entries, ¬ (e.cls = .evacuation ∧ e.origin = .screen n)) := by
  have hdue : (if x.evacActive then x.withEvac { x.evac with due := x.dueAfterBump } else x).evac.due
      = if x.evac.state = .active then x.dueAfterBump else x.evac.due := by
    rw [State.evacActive]
    simp only [beq_iff_eq]
    split <;> rfl
  have hget : x.dueAfterBump[n] = (x.evac.due[n] || (x.screens[n].isSome && !x.evacEntryQueued n)) := mapFin_get ..
  rw [hdue]
  split
  · next ha =>
    rw [hget, Bool.or_eq_true, Bool.and_eq_true, Bool.not_eq_true', evacEntryQueued_eq_false]
    simp [ha]
  · next ha => simp [ha]

/-- The due flags after a bump in SERVICE (R22). -/
theorem bumpCore_due_iff {s : State} (hm : s.map.mode = .service) (n : Fin 48) :
    s.bumpCore.evac.due[n] = true ↔
      s.evac.due[n] = true ∨ (s.evac.state = .active ∧ s.screens[n].isSome = true
        ∧ ∀ e ∈ s.queue.entries, ¬ (e.cls = .evacuation ∧ e.origin = .screen n)) := by
  have hservice : s.inService = true := beq_iff_eq.mpr hm
  have hmarked := dueMarked_iff ((s.withMap { s.map with generation := nextGeneration s.map.generation }).withUnits
    { a := s.units.a.map Attempt.mark, b := s.units.b.map Attempt.mark }) n
  unfold State.bumpCore
  rw [if_pos hservice]
  exact hmarked

/-- Settles O25. -/
theorem bumpMarksUnitsAndScreens : Obligations.BumpMarksUnitsAndScreens := by
  refine fun s => ⟨fun hm => ?_, fun hm => ⟨s.bumpCore, ?_, ?_, bumpCore_due_iff hm⟩⟩
  · have hno : s.inService = false := by rw [State.inService, hm]; rfl
    rw [State.bump, hno, State.bumpCore, hno]
    rfl
  · have hservice : s.inService = true := beq_iff_eq.mpr hm
    rw [State.bump, hservice, Bool.true_and, State.evacActive]
    simp only [beq_iff_eq]
  · have hservice : s.inService = true := beq_iff_eq.mpr hm
    unfold State.bumpCore
    rw [if_pos hservice]
    dsimp only
    split <;> rfl

/-! ## Dynamic edits (R5, R6, R9) -/

/-- Settles O26. -/
theorem dynamicEditsStoreAndBump : Obligations.DynamicEditsStoreAndBump := by
  intro s tag
  refine ⟨fun i g v hi hg => ⟨fun hv => ?same, fun hv => ⟨_, rfl, ?changed⟩⟩, fun i x g hi hx hg => ⟨_, rfl, ?trim⟩,
    fun g w hw => ⟨_, rfl, ?wait⟩, fun i l w m o hi hm hl ho hservice => ⟨_, rfl, ?override⟩⟩
  case same =>
    refine exec_of_pass rfl rfl (by simp [inRange, hi]) ?_
    simp only [State.taken_map, hg, if_pos hv] <;> rfl
  case changed =>
    refine exec_of_pass rfl rfl (by simp [inRange, hi]) ?_
    simp only [State.taken_map, hg, if_neg hv] <;> rfl
  case trim =>
    refine exec_of_pass rfl rfl (by simp [inRange, hi, hx]) ?_
    simp only [State.taken_map, hg] <;> rfl
  case wait =>
    refine exec_of_pass rfl rfl (by simp [inRange, hw]) ?_
    simp only [toFin?_val] <;> rfl
  case override =>
    have happart : targetApart s i m = true := by
      unfold targetApart
      cases hin : s.inService with
      | false => rfl
      | true =>
        rw [Bool.not_true, Bool.false_or, bne_iff_ne]
        rintro rfl
        exact (hservice (beq_iff_eq.mp hin) i rfl).1 rfl
    have hdefined : targetDefined s m = true := by
      unfold targetDefined
      cases hin : s.inService with
      | false => rfl
      | true =>
        rw [Bool.not_true, Bool.false_or, optAll_iff]
        exact fun x hx => (hservice (beq_iff_eq.mp hin) x hx).2
    have happart' : targetApart (s.taken (.override tag i w m)) i m = true := happart
    have hdefined' : targetDefined (s.taken (.override tag i w m)) m = true := hdefined
    refine exec_of_pass rfl rfl ?_ ?_
    · simp [inRange, hi, optLe_iff.mpr hm, agrees, ho, happart', exists?, hl, hdefined']
    · simp only [State.taken_map, hl, ho] <;> rfl

/-! ## Directory queries (R10 to R14) -/

theorem effective_eq (s : State) (l : Listing) : s.effective l = match l.override, l.hours with
    | .vacant, _ => .vacant
    | .relocated m, _ => .moved m
    | .forcedClosed, _ => .closed
    | .forcedOpen, _ => .opened
    | .absent, none => .opened
    | .absent, some h =>
      if s.clock.clock = none then .unknown
      else match h.state with
        | .opened => .opened
        | .closed => .closed
        | .unknown => .unknown := by
  obtain ⟨_, _, _, hours, override, _⟩ := l
  unfold State.effective
  cases override with
  | absent =>
    rcases hours with _ | ⟨_, state⟩
    · rfl
    · cases s.clock.clock <;> cases state <;> rfl
  | _ => rfl

theorem targetFields_eq (o : Override) : targetFields o = match o with
    | .relocated m => [(.target, .num m)]
    | _ => [] := by
  cases o <;> rfl

/-- Settles O27. -/
theorem directoryQueriesAnswer : Obligations.DirectoryQueriesAnswer := by
  intro s tag
  refine ⟨fun text cat start htext hcat hstart => ⟨_, rfl, ?search⟩, fun text cat start hout => ?searchOut,
    fun i l e hi hl he => ?lookup, ⟨rfl, fun _ _ => rfl⟩, fun i l clear hi hl hclear => ?demandOne,
    fun clear hclear => ?demandAll, fun i => ⟨fun hi => ⟨?lookupOut, fun clear => ?demandOut⟩,
      fun hi hl => ⟨?lookupNone, fun clear hclear => ?demandNone⟩⟩⟩
  case search =>
    refine exec_of_pass rfl rfl (by simp [inRange, htext, optLe_iff.mpr hcat, hstart]) ?_
    rw [← flagVal_decide]
    rfl
  case searchOut =>
    refine exec_of_fail rfl rfl ?_
    have hfail : (decide (text.length ≤ 8) && optLe 63 cat && decide (start ≤ 1023)) = false := by
      rcases hout with h | ⟨c, hc, h⟩ | h
      · simp [h]
      · have : optLe 63 cat = false := by
          rw [hc]
          simp [optLe, h]
        simp [this]
      · simp [h]
    simp [firstFailing, inRange, hfail]
  case lookup =>
    have heffective : s.effective l = e := (effective_eq s l).trans he.symm
    refine ⟨heffective, exec_of_pass rfl rfl (by simp [inRange, hi]) ?_⟩
    have heffective' : (s.taken (.lookup tag i)).effective l = e := heffective
    simp only [State.taken_map, hl, lookupFields, heffective', targetFields_eq] <;> rfl
  case demandOne =>
    refine exec_of_pass rfl rfl (by simp [inRange, optLe_some hi, optLe_iff.mpr hclear]) ?_
    simp only [demandOneEffect, State.taken_map, hl, flagSet, beq_iff_eq] <;> rfl
  case demandAll =>
    refine exec_of_pass rfl rfl (by simp [inRange, optLe_none, optLe_iff.mpr hclear]) ?_
    simp only [demandAllEffect, State.taken_map, flagSet, beq_iff_eq] <;> rfl
  case lookupOut => exact exec_of_fail rfl rfl (by simp [firstFailing, inRange, Nat.not_le.mpr hi])
  case demandOut => exact exec_of_fail rfl rfl (by simp [firstFailing, inRange, optLe, Nat.not_le.mpr hi])
  case lookupNone =>
    refine exec_of_pass rfl rfl (by simp [inRange, hi]) ?_
    simp only [State.taken_map, hl]
  case demandNone =>
    refine exec_of_pass rfl rfl (by simp [inRange, optLe_some hi, optLe_iff.mpr hclear]) ?_
    simp only [demandOneEffect, State.taken_map, hl]

end Sys2Proof.Machine

/-! # Proofs: whole operations as named updates -/

namespace Sys2Proof.Machine

open Sys2Proof.Safety

theorem state_ext {s t : State} (hmap : s.map = t.map) (hscreens : s.screens = t.screens) (hqueue : s.queue = t.queue)
    (hunits : s.units = t.units) (hgates : s.gates = t.gates) (hcensus : s.census = t.census)
    (hwatches : s.watches = t.watches) (hevac : s.evac = t.evac) (hclock : s.clock = t.clock) (hport : s.port = t.port)
    (hfree : s.free = t.free) (hpending : s.pending = t.pending) : s = t := by
  cases s
  cases t
  simp_all

/-! ## Operations over every screen or timer, as one update with a vector -/

theorem mapSessions_form (s : State) (f : ScreenDecl → Session → Session) :
    ∃ v, s.mapSessions f = s.withScreens v
      ∧ ∀ n : Fin 48, v[n] = (s.screens[n]).map fun c => { c with session := f c.decl c.session } :=
  ⟨_, rfl, fun _ => mapFin_get ..⟩

theorem holdTimers_form (s : State) :
    ∃ w, s.holdTimers = s.withClock { s.clock with timers := w } ∧ ∀ k : Fin 8, w[k] = { s.clock.timers[k] with due := false } :=
  ⟨_, rfl, fun _ => mapFin_get ..⟩

theorem dueAll_form (s : State) :
    ∃ d, s.dueAll = s.withEvac { s.evac with due := d } ∧ ∀ n : Fin 48, d[n] = (s.evac.due[n] || s.screens[n].isSome) :=
  ⟨_, rfl, fun _ => mapFin_get ..⟩

/-- A bump in SERVICE, as named updates (R20 to R22). -/
theorem bumpCore_form {s : State} (hm : s.map.mode = .service) :
    ∃ d, s.bumpCore = ((s.withMap { s.map with generation := (s.map.generation + 1) % 4294967296 }).withUnits
        { a := s.units.a.map Attempt.mark, b := s.units.b.map Attempt.mark }).withEvac { s.evac with due := d }
      ∧ ∀ n : Fin 48, d[n] = true ↔ s.evac.due[n] = true ∨ (s.evac.state = .active ∧ s.screens[n].isSome = true
        ∧ ∀ e ∈ s.queue.entries, ¬ (e.cls = .evacuation ∧ e.origin = .screen n)) := by
  refine ⟨s.bumpCore.evac.due, ?_, bumpCore_due_iff hm⟩
  have hservice : s.inService = true := beq_iff_eq.mpr hm
  unfold State.bumpCore
  rw [if_pos hservice]
  dsimp only
  split <;> rfl

/-! ## Entries ended before their completion (R46, R67) -/

theorem isFailure_of_isAbort {o : RouteOutcome} (h : o.isAbort = true) : o.isFailure = false := by
  cases o <;> first | rfl | cases h

theorem handOutcome_evac_of_abort (s : State) {r : RouteResult} (h : r.outcome.isAbort = true) :
    (s.handOutcome r).evac = s.evac := by
  have hno : r.clearsDue = false := by rw [RouteResult.clearsDue, h]; rfl
  unfold State.handOutcome
  repeat' split
  · rfl
  · rfl
  · next hc => rw [hno] at hc; cases hc
  · rfl

theorem handOutcome_watches (s : State) (r : RouteResult) : (s.handOutcome r).watches = s.watches := by
  unfold State.handOutcome
  repeat' split
  all_goals rfl

theorem emptyResult_congr {s t : State} (h : t.map = s.map) (e : Entry) (o : RouteOutcome) (f : List RouteFlag) :
    emptyResult t e o f = emptyResult s e o f := by
  rw [emptyResult, emptyResult, h]

/-- The result posted for each entry that is ended with an outcome, in their order. -/
def postEnded (s : State) (o : RouteOutcome) (l : List Entry) (p : Port) : Port :=
  l.foldl (fun p e => p.post (.routeResult (emptyResult s e o []))) p

/-- What the ending of some entries does beside taking them out: each result is posted, and sessions take the outcomes. -/
structure Ended (o : RouteOutcome) (l : List Entry) (s t : State) : Prop where
  keeps : RouteKeeps s t
  evac : t.evac = s.evac
  watches : t.watches = s.watches
  port : t.port = postEnded s o l s.port
  sessions : SessionsTake s t

namespace Ended

variable {o : RouteOutcome} {l k : List Entry} {s t u : State}

theorem refl (s : State) : Ended o [] s s := ⟨.refl s, rfl, rfl, rfl, .of_eq rfl⟩

theorem trans (h : Ended o l s t) (j : Ended o k t u) : Ended o (l ++ k) s u := by
  refine ⟨h.keeps.trans j.keeps, j.evac.trans h.evac, j.watches.trans h.watches, ?_, h.sessions.trans j.sessions⟩
  have hcongr : ∀ p, postEnded t o k p = postEnded s o k p := fun p => by
    unfold postEnded
    simp only [emptyResult_congr h.keeps.map]
  rw [j.port, h.port, hcongr]
  exact (List.foldl_append ..).symm

theorem postFromQueue (ho : o.isAbort = true) (s : State) (e : Entry) : Ended o [e] s (s.postFromQueue o e) :=
  ⟨.postFromQueue .., handOutcome_evac_of_abort _ ho, handOutcome_watches .., postFromQueue_port ..,
    (RouteMoves.postFromQueue s o e).sessions⟩

theorem foldl (ho : o.isAbort = true) (l : List Entry) (s : State) :
    Ended o l s (l.foldl (fun s e => s.postFromQueue o e) s) := by
  induction l generalizing s with
  | nil => exact refl s
  | cons e l ih => exact (postFromQueue ho s e).trans (ih _)

theorem abortUnit (ho : o.isAbort = true) (s : State) (u : UnitName) (test : Entry → Bool) :
    Ended o (((s.units.get u).toList.map Attempt.entry).filter test) s (s.abortUnit u test o) := by
  unfold State.abortUnit
  split
  · next h =>
    rw [h]
    exact refl s
  · next a h =>
    rw [h]
    split
    · next ht =>
      have hcount : ∀ x : State, x.countFailure o = x := fun x => by
        rw [State.countFailure, isFailure_of_isAbort ho]
        rfl
      have hpost : s.postFromUnit u (emptyResult s a.entry o [])
          = (s.postFromQueue o a.entry).withUnits ((s.postFromQueue o a.entry).units.set u none) := by
        unfold State.postFromUnit State.postFromQueue
        dsimp only
        rw [show (emptyResult s a.entry o []).outcome = o from rfl, hcount]
      obtain ⟨hkeeps, hevac, hwatches, hport, hsessions⟩ := postFromQueue ho s a.entry
      have hlist : ((some a).toList.map Attempt.entry).filter test = [a.entry] := by simp [ht]
      rw [hlist, hpost]
      exact ⟨hkeeps.trans (.withUnits ..), hevac, hwatches, hport, hsessions.trans (.of_eq rfl)⟩
    · next ht =>
      have hlist : ((some a).toList.map Attempt.entry).filter test = [] := by simp [ht]
      rw [hlist]
      exact refl s

theorem endEntries (ho : o.isAbort = true) (s : State) (test : Entry → Bool) :
    Ended o (s.allEntries.filter test) s (s.endEntries test o) := by
  have hqueued : Ended o (s.queue.entries.filter test) s (s.endQueued test o) := by
    obtain ⟨hkeeps, hevac, hwatches, hport, hsessions⟩ := foldl ho (s.queue.entries.filter test)
      (s.withQueue { s.queue with entries := s.queue.entries.filter fun e => !test e })
    exact ⟨(RouteKeeps.withQueue ..).trans hkeeps, hevac, hwatches, hport, SessionsTake.trans (.of_eq rfl) hsessions⟩
  obtain ⟨_, hunits, _⟩ := OutcomesKept.foldl_postFromQueue o (s.queue.entries.filter test)
    (s.withQueue { s.queue with entries := s.queue.entries.filter fun e => !test e })
  have hunits : (s.endQueued test o).units = s.units := hunits
  have ha := abortUnit ho (s.endQueued test o) .a test
  have hb := abortUnit ho ((s.endQueued test o).abortUnit .a test o) .b test
  rw [abortUnit_units, hunits] at hb
  rw [hunits] at ha
  have hall : s.allEntries.filter test = s.queue.entries.filter test
      ++ (((s.units.get .a).toList.map Attempt.entry).filter test
        ++ ((s.units.get .b).toList.map Attempt.entry).filter test) := by
    rw [State.allEntries, List.filter_append, Units.entries, List.map_append, List.filter_append]
    rfl
  rw [hall]
  exact hqueued.trans (ha.trans hb)

end Ended

/-- Ending entries, as named updates. -/
theorem endEntries_form {o : RouteOutcome} (ho : o.isAbort = true) (s : State) (test : Entry → Bool) :
    ∃ v, s.endEntries test o = (((s.withQueue { s.queue with entries := s.queue.entries.filter fun e => !test e }).withUnits
        (s.units.without test)).withScreens v).withPort (postEnded s o (s.allEntries.filter test) s.port)
      ∧ SessionsTake s (s.withScreens v) := by
  obtain ⟨hkeeps, hevac, hwatches, hport, hsessions⟩ := Ended.endEntries ho s test
  refine ⟨(s.endEntries test o).screens, ?_, hsessions⟩
  exact state_ext hkeeps.map rfl (endEntries_queue ..) (endEntries_units ..) hkeeps.gates hkeeps.census hwatches hevac
    hkeeps.clock hport hkeeps.free hkeeps.pending

/-- Ending every entry, as named updates. -/
theorem endAll_form {o : RouteOutcome} (ho : o.isAbort = true) (s : State) {test : Entry → Bool}
    (hall : ∀ e ∈ s.allEntries, test e = true) :
    ∃ v, s.endEntries test o = (((s.withQueue { s.queue with entries := [] }).withUnits { a := none, b := none }).withScreens
        v).withPort (postEnded s o s.allEntries s.port)
      ∧ SessionsTake s (s.withScreens v) := by
  obtain ⟨v, heq, hv⟩ := endEntries_form ho s test
  have hqueue : (s.queue.entries.filter fun e => !test e) = [] :=
    List.filter_eq_nil_iff.mpr fun e he => by simp [hall e (List.mem_append_left _ he)]
  have hunits : s.units.without test = { a := none, b := none } := by
    have hno : ∀ (u : UnitName) (a : Attempt), s.units.get u = some a → (!test a.entry) = false := fun u a ha => by
      rw [hall _ (List.mem_append_right _ (RouteMoves.mem_entries_of_get ha))]
      rfl
    unfold Units.without
    refine congrArg₂ Units.mk ?_ ?_
    · exact Option.filter_eq_none_iff.mpr fun a ha => by simp [hno .a a ha]
    · exact Option.filter_eq_none_iff.mpr fun b hb => by simp [hno .b b hb]
  refine ⟨v, ?_, hv⟩
  rw [heq, hqueue, hunits, List.filter_eq_self.mpr hall]

/-- Taking outcomes leaves a session's settings (R139). -/
theorem takes_prefs {d : ScreenDecl} {x y : Session} (h : Takes d x y) : y.language = x.language ∧ y.profile = x.profile := by
  induction h with
  | refl => exact ⟨rfl, rfl⟩
  | @outcome y _ id o ih =>
    rcases takeOutcome_cases id o d y with heq | ⟨_, _, heq | heq⟩ <;> rw [heq] <;> exact ih
  | @evac y _ id o ih =>
    rcases takeEvacResult_cases id o d y with heq | ⟨_, e, heq⟩ <;> rw [heq] <;> exact ih

/-! ## The entry event (R146) -/

/-- The entry event's part after the entries are ended. -/
def State.alarmed (s : State) (cause : EvacCause) : State :=
  ((((s.mapSessions fun _ ses => ses.toAlert).holdTimers.bumpCore).dueAll).postEvac cause).setAck true

theorem entered_eq_alarmed (s : State) (cause : EvacCause) : s.entered cause
    = ((s.evacTo .active).endEntries (fun e => e.cls == .normal) .evacCancelled).alarmed cause := rfl

theorem alarmed_form {s : State} (hm : s.map.mode = .service) (cause : EvacCause) :
    ∃ v w d, s.alarmed cause = ((((((s.withMap { s.map with generation := (s.map.generation + 1) % 4294967296 }).withUnits
          { a := s.units.a.map Attempt.mark, b := s.units.b.map Attempt.mark }).withEvac
          { s.evac with due := d, ack := true }).withScreens v).withClock { s.clock with timers := w }).withPort
          (s.port.post (.evac s.evac.state cause s.evac.debounced ((s.map.generation + 1) % 4294967296))))
      ∧ (∀ n : Fin 48, v[n] = (s.screens[n]).map fun c => { c with session := c.session.toAlert })
      ∧ (∀ k : Fin 8, w[k] = { s.clock.timers[k] with due := false })
      ∧ ∀ n : Fin 48, (s.evac.due[n] = true → s.screens[n].isSome = true) → d[n] = s.screens[n].isSome := by
  obtain ⟨v, hv, hvget⟩ := mapSessions_form s fun _ ses => ses.toAlert
  obtain ⟨w, hw, hwget⟩ := holdTimers_form (s.withScreens v)
  obtain ⟨d, hd, hdget⟩ := bumpCore_form (s := (s.withScreens v).withClock { s.clock with timers := w }) hm
  unfold State.alarmed
  rw [hv, hw]
  simp only [State.withScreens_clock] at hd ⊢
  rw [hd]
  obtain ⟨d', hd', hdget'⟩ := dueAll_form (((((s.withScreens v).withClock { s.clock with timers := w }).withMap
    { s.map with generation := (s.map.generation + 1) % 4294967296 }).withUnits
    { a := s.units.a.map Attempt.mark, b := s.units.b.map Attempt.mark }).withEvac { s.evac with due := d })
  refine ⟨v, w, d', ?_, hvget, hwget, fun n hn => ?_⟩
  · exact congrArg (fun t => (State.postEvac t cause).setAck true) hd'
  · have hsome : v[n].isSome = s.screens[n].isSome := by rw [hvget, Option.isSome_map]
    have hfinal : d'[n] = (d[n] || v[n].isSome) := hdget' n
    have hmid : d[n] = true → s.screens[n].isSome = true := fun h => by
      rcases (hdget n).mp h with h | ⟨_, h, _⟩
      · exact hn h
      · exact hsome.symm.trans h
    rw [hfinal, hsome]
    cases hdn : d[n] with
    | false => rfl
    | true => rw [hmid hdn]; rfl

end Sys2Proof.Machine

/-! # Proofs: evacuation entered and left -/

namespace Sys2Proof.Machine

open Sys2Proof.Safety

/-! ## The entry event (R146) -/

theorem postEnded_congr {s t : State} (h : t.map = s.map) (o : RouteOutcome) (l : List Entry) (p : Port) :
    postEnded t o l p = postEnded s o l p := by
  unfold postEnded
  simp only [emptyResult_congr h]

/-- A vector of screens in which every session has been put into ALERT after taking outcomes. -/
theorem alert_of_take {s t : State} {v : Vector (Option Screen) 48} (h : SessionsTake s t)
    (hv : ∀ n : Fin 48, v[n] = (t.screens[n]).map fun c => { c with session := c.session.toAlert }) (n : Fin 48) :
    v[n] = (s.screens[n]).map fun c => { c with session :=
      { state := .alert, language := c.session.language, profile := c.session.profile, stack := [], pending := none
        shown := none, evac := none, idle := none } } := by
  rw [hv]
  rcases h n with ⟨hs, ht⟩ | ⟨c, x, hs, ht, hx⟩
  · rw [hs, ht]
    rfl
  · obtain ⟨hlanguage, hprofile⟩ := takes_prefs hx
    rw [hs, ht, Option.map_some, Option.map_some, ← hlanguage, ← hprofile]
    rfl

theorem isSome_of_take {s t : State} (h : SessionsTake s t) (n : Fin 48) : (t.screens[n]).isSome = (s.screens[n]).isSome := by
  rcases h n with ⟨hs, ht⟩ | ⟨c, x, hs, ht, _⟩ <;> rw [hs, ht] <;> rfl

/-- The entry event in SERVICE with NORMAL entries alone, as named updates. -/
theorem entered_form {s : State} (hm : s.map.mode = .service) (hall : ∀ e ∈ s.allEntries, e.cls = .normal)
    (hdue : ∀ n : Fin 48, s.evac.due[n] = true → (s.screens[n]).isSome = true) (cause : EvacCause) :
    ∃ v w d, s.entered cause = ((((((s.withMap { s.map with generation := (s.map.generation + 1) % 4294967296 }).withQueue
          { s.queue with entries := [] }).withUnits { a := none, b := none }).withEvac
          { s.evac with state := .active, due := d, ack := true }).withScreens v).withClock
          { s.clock with timers := w }).withPort
          ((postEnded s .evacCancelled s.allEntries s.port).post
            (.evac .active cause s.evac.debounced ((s.map.generation + 1) % 4294967296)))
      ∧ (∀ n : Fin 48, v[n] = (s.screens[n]).map fun c => { c with session :=
          { state := .alert, language := c.session.language, profile := c.session.profile, stack := [], pending := none
            shown := none, evac := none, idle := none } })
      ∧ (∀ k : Fin 8, w[k] = { s.clock.timers[k] with due := false })
      ∧ ∀ n : Fin 48, d[n] = (s.screens[n]).isSome := by
  obtain ⟨v0, hended, htake⟩ := endAll_form (o := .evacCancelled) rfl (s.evacTo .active) (test := fun e => e.cls == .normal)
    fun e he => beq_iff_eq.mpr (hall e he)
  have htake : SessionsTake s (s.withScreens v0) := htake
  rw [entered_eq_alarmed, hended, postEnded_congr (s := s) (t := s.evacTo .active) rfl]
  obtain ⟨v, w, d, halarmed, hv, hw, hd⟩ := alarmed_form
    (s := ((((s.evacTo .active).withQueue { s.queue with entries := [] }).withUnits { a := none, b := none }).withScreens
      v0).withPort (postEnded s .evacCancelled s.allEntries s.port)) hm cause
  refine ⟨v, w, d, halarmed, alert_of_take htake hv, hw, fun n => ?_⟩
  have hsome := isSome_of_take htake n
  exact (hd n fun h => hsome.trans (hdue n h)).trans hsome

/-- Settles O54. -/
theorem evacuationIsEntered : Obligations.EvacuationIsEntered := by
  intro s hm hc
  refine ⟨fun high => rfl, fun hno => ?still, fun i b cause h => ?rise⟩
  case still =>
    have hif : ¬ (s.evac.line && !s.evac.debounced) = true := by
      rcases hno with h | h <;> simp [h]
    exact congrArg Host.Outcome.next (if_neg hif)
  case rise =>
    obtain ⟨hmap, hqueue, hunits, hscreens, hclock, hstate, hdue, hline⟩ : b.map = s.map ∧ b.queue = s.queue
        ∧ b.units = s.units ∧ b.screens = s.screens ∧ b.clock = s.clock ∧ b.evac.state = s.evac.state
        ∧ b.evac.due = s.evac.due ∧ b.evac.line = s.evac.line := by
      rcases h with ⟨_, _, _, _, rfl⟩ | ⟨tag, _, _, rfl⟩ <;> exact ⟨rfl, rfl, rfl, rfl, rfl, rfl, rfl, rfl⟩
    have hentries : b.allEntries = s.allEntries := by rw [State.allEntries, State.allEntries, hqueue, hunits]
    refine ⟨b.raiseEvac cause, fun hi => ?_, fun tag hi => ?_, fun hne => ?_, fun hi hload => ?_, fun hi hservice => ?_⟩
    · rcases h with ⟨_, hl, hd, rfl, rfl⟩ | ⟨tag, hevac, _, _⟩
      · rw [hi]
        exact congrArg Host.Outcome.next (if_pos (by rw [hl, hd]; rfl))
      · rw [hi] at hevac
        cases hevac
    · rcases h with ⟨hrise, _⟩ | ⟨tag', hevac, rfl, rfl⟩
      · rw [hi] at hrise
        cases hrise
      · subst hi
        exact exec_of_effect (effect := evacEffect) rfl rfl
    · unfold State.raiseEvac
      rw [hstate]
      cases hs : s.evac.state with
      | inactive => exact absurd hs hne
      | active => rfl
      | pending => rfl
    · have hno : b.inService = false := by rw [State.inService, hmap, hload]; rfl
      unfold State.raiseEvac
      rw [hstate, hi, hno, ← hmap]
      rfl
    · have hin : b.inService = true := by rw [State.inService, hmap, hservice]; rfl
      have hnormal : ∀ e ∈ b.allEntries, e.cls = .normal := fun e he => by
        have := hc e (Eq.subst (motive := (e ∈ ·)) hentries he)
        rwa [hi, if_neg nofun] at this
      have hdues : ∀ n : Fin 48, b.evac.due[n] = true → (b.screens[n]).isSome = true := fun n hn => by
        rw [hdue, due_of_inactive hm (by rw [hi]; nofun)] at hn
        cases hn
      obtain ⟨v, w, d, hform, hv, hw, hd⟩ := entered_form (hmap ▸ hservice) hnormal hdues cause
      refine ⟨b.entered cause, ?_, ?_⟩
      · unfold State.raiseEvac
        rw [hstate, hi, hin]
        exact entryEvent_eq ..
      · rw [hform]
        refine ⟨by rw [← hmap]; rfl, by rw [← hqueue]; rfl, rfl, rfl, rfl, hline, rfl, fun n => ?_, fun n => ?_, fun k => ?_,
          ?_, ?_⟩
        · exact (hd n).trans (by rw [hscreens])
        · exact (hv n).trans (by rw [hscreens])
        · exact (hw k).trans (by rw [hclock])
        · rw [State.withPort_port, postEnded_congr hmap, hentries]
          simp only [State.withPort_map, State.withClock_map, State.withScreens_map, State.withEvac_map,
            State.withUnits_map, State.withQueue_map, State.withMap_map] <;> rfl
        · rw [← hclock]
          rfl

end Sys2Proof.Machine

/-! # Proofs: evacuation left -/

namespace Sys2Proof.Machine

open Sys2Proof.Safety

/-! ## Outcomes that leave every session (R136, R139) -/

theorem modifySession_of_fixed {s : State} {n : Fin 48} {f : ScreenDecl → Session → Session}
    (h : ∀ c, s.screens[n] = some c → f c.decl c.session = c.session) : (s.modifySession n f).screens = s.screens := by
  refine Vector.ext fun i hi => ?_
  have hget := modifySession_get s n ⟨i, hi⟩ f
  refine hget.trans ?_
  split
  · next hn =>
    subst hn
    cases hc : s.screens[(⟨i, hi⟩ : Fin 48)] with
    | none => rfl
    | some c => rw [Option.map_some, h c hc]
  · rfl

theorem takeOutcome_of_leaves {o : RouteOutcome} (h : o.endsPending = false) (id : Nat) (d : ScreenDecl) (x : Session) :
    x.takeOutcome id o d = x := by
  unfold Session.takeOutcome
  split
  · cases o <;> first | rfl | cases h
  · rfl

theorem takeEvacResult_of_leaves {o : RouteOutcome} (h : o.endsPending = false) (id : Nat) (d : ScreenDecl) (x : Session) :
    x.takeEvacResult id o d = x := by
  unfold Session.takeEvacResult
  split
  · cases o <;> first | rfl | cases h
  · rfl

theorem handOutcome_screens {s : State} {r : RouteResult} (h : r.outcome.endsPending = false) :
    (s.handOutcome r).screens = s.screens := by
  unfold State.handOutcome
  split
  · rfl
  · split
    · exact modifySession_of_fixed fun c _ => takeOutcome_of_leaves h ..
    · dsimp only
      split
      · exact modifySession_of_fixed fun c _ => takeEvacResult_of_leaves h ..
      · exact modifySession_of_fixed fun c _ => takeEvacResult_of_leaves h ..

/-- SUPERSEDED, WITHDRAWN and EVAC_ENDED leave every session as it was. -/
theorem endEntries_screens {o : RouteOutcome} (h : o.endsPending = false) (s : State) (test : Entry → Bool) :
    (s.endEntries test o).screens = s.screens := by
  have hqueue : ∀ (x : State) (e : Entry), (x.postFromQueue o e).screens = x.screens := fun x e =>
    handOutcome_screens (s := x.post (.routeResult (emptyResult x e o []))) (r := emptyResult x e o []) h
  have hunit : ∀ (x : State) (u : UnitName), (x.abortUnit u test o).screens = x.screens := by
    intro x u
    unfold State.abortUnit
    split
    · rfl
    · split
      · unfold State.postFromUnit
        dsimp only
        rw [State.withUnits_screens, handOutcome_screens h, countFailure_screens]
        rfl
      · rfl
  have hqueued : (s.endQueued test o).screens = s.screens :=
    foldl_keeps (p := fun x => x.screens = s.screens) (fun x e hx => (hqueue x e).trans hx) _
      (s := s.withQueue { s.queue with entries := s.queue.entries.filter fun e => !test e }) rfl
  rw [State.endEntries, hunit, hunit, hqueued]

/-! ## The exit event (R150) -/

/-- The exit event's part after the entries are ended. -/
def State.calmed (s : State) : State :=
  ((((s.clearDue).mapSessions Session.leaveAlert).bumpCore).postEvac .ended).setAck false

theorem exited_eq_calmed (s : State) : s.exited
    = ((s.evacTo .inactive).endEntries (fun e => e.cls == .evacuation) .evacEnded).calmed := rfl

theorem clearDue_form (s : State) :
    ∃ d, s.clearDue = s.withEvac { s.evac with due := d } ∧ ∀ n : Fin 48, d[n] = false :=
  ⟨_, rfl, fun _ => Vector.getElem_replicate ..⟩

theorem calmed_form {s : State} (hm : s.map.mode = .service) (hi : s.evac.state = .inactive) :
    ∃ v d, s.calmed = (((((s.withMap { s.map with generation := (s.map.generation + 1) % 4294967296 }).withUnits
          { a := s.units.a.map Attempt.mark, b := s.units.b.map Attempt.mark }).withEvac
          { s.evac with due := d, ack := false }).withScreens v).withPort
          (s.port.post (.evac .inactive .ended s.evac.debounced ((s.map.generation + 1) % 4294967296))))
      ∧ (∀ n : Fin 48, v[n] = (s.screens[n]).map fun c => { c with session := Session.leaveAlert c.decl c.session })
      ∧ ∀ n : Fin 48, d[n] = false := by
  obtain ⟨d0, hd0, hd0get⟩ := clearDue_form s
  obtain ⟨v, hv, hvget⟩ := mapSessions_form (s.withEvac { s.evac with due := d0 }) Session.leaveAlert
  obtain ⟨d, hd, hdget⟩ := bumpCore_form (s := (s.withEvac { s.evac with due := d0 }).withScreens v) hm
  unfold State.calmed
  rw [hd0, hv, hd]
  refine ⟨v, d, ?_, hvget, fun n => ?_⟩
  · rw [← hi]
    rfl
  · cases hn : d[n] with
    | false => rfl
    | true =>
      rcases (hdget n).mp hn with h | ⟨h, _⟩
      · have h : d0[n] = true := h
        rw [hd0get] at h
        cases h
      · have h : s.evac.state = .active := h
        rw [hi] at h
        cases h

/-- The exit event in SERVICE with EVACUATION entries alone, as named updates. -/
theorem exited_form {s : State} (hm : s.map.mode = .service) (hall : ∀ e ∈ s.allEntries, e.cls = .evacuation) :
    ∃ v d, s.exited = (((((s.withMap { s.map with generation := (s.map.generation + 1) % 4294967296 }).withQueue
          { s.queue with entries := [] }).withUnits { a := none, b := none }).withEvac
          { s.evac with state := .inactive, due := d, ack := false }).withScreens v).withPort
          ((postEnded s .evacEnded s.allEntries s.port).post
            (.evac .inactive .ended s.evac.debounced ((s.map.generation + 1) % 4294967296)))
      ∧ (∀ n : Fin 48, v[n] = (s.screens[n]).map fun c => { c with session := Session.leaveAlert c.decl c.session })
      ∧ ∀ n : Fin 48, d[n] = false := by
  obtain ⟨v0, hended, _⟩ := endAll_form (o := .evacEnded) rfl (s.evacTo .inactive) (test := fun e => e.cls == .evacuation)
    fun e he => beq_iff_eq.mpr (hall e he)
  have hscreens := endEntries_screens (o := .evacEnded) rfl (s.evacTo .inactive) fun e => e.cls == .evacuation
  rw [hended] at hscreens
  have hv0 : v0 = s.screens := hscreens
  rw [exited_eq_calmed, hended, postEnded_congr (s := s) (t := s.evacTo .inactive) rfl, hv0]
  obtain ⟨v, d, hcalmed, hv, hd⟩ := calmed_form
    (s := ((((s.evacTo .inactive).withQueue { s.queue with entries := [] }).withUnits
      { a := none, b := none }).withScreens s.screens).withPort (postEnded s .evacEnded s.allEntries s.port)) hm rfl
  exact ⟨v, d, hcalmed, hv, hd⟩

/-- Settles O55. -/
theorem evacuationIsLeft : Obligations.EvacuationIsLeft := by
  intro s tag hm hc
  refine ⟨fun hno => ?still, fun hl hd => ?fall, fun hi => ?inactive, fun hi hd => ?line, fun hd hi => ?left⟩
  case still =>
    have hif : ¬ (!s.evac.line && s.evac.debounced) = true := by
      rcases hno with h | h <;> simp [h]
    exact congrArg Host.Outcome.next (if_neg hif)
  case fall =>
    have hif : (!s.evac.line && s.evac.debounced) = true := by rw [hl, hd]; rfl
    refine congrArg Host.Outcome.next ((if_pos hif).trans ?_)
    have hfall : (s.withEvac { s.evac with debounced := false }).fallEvac = match s.evac.state with
        | .inactive => s.withEvac { s.evac with debounced := false }
        | .active | .pending => (s.withEvac { s.evac with debounced := false }).withPort
            (s.port.post (.evac s.evac.state .lineLow false s.map.generation)) := rfl
    rw [hfall]
    cases s.evac.state <;> rfl
  case inactive =>
    refine exec_of_fail (effect := evacEndEffect) rfl rfl ?_
    rw [State.taken_evac, hi]
    rfl
  case line =>
    refine exec_of_fail (effect := evacEndEffect) rfl rfl ?_
    have hne : (s.evac.state != .inactive) = true := bne_iff_ne.mpr hi
    rw [State.taken_evac, hne, hd]
    rfl
  case left =>
    have hpass : ∀ q ∈ ([((s.taken (.evacEnd tag)).evac.state != .inactive, .no .notActive),
        (!(s.taken (.evacEnd tag)).evac.debounced, .no .evacLine)] : List (Bool × Answer)), q.1 = true := by
      simp [hd, hi]
    obtain ⟨hactive, _⟩ := hm
    cases hstate : s.evac.state with
    | inactive => exact absurd hstate hi
    | pending =>
      obtain ⟨d, hform, hdget⟩ := clearDue_form ((s.taken (.evacEnd tag)).evacTo .inactive)
      have hend : (s.taken (.evacEnd tag)).endPending = ((s.taken (.evacEnd tag)).withEvac
          { s.evac with state := .inactive, due := d, ack := false }).withPort
          ((s.taken (.evacEnd tag)).port.post (.evac .inactive .ended false s.map.generation)) := by
        rw [State.endPending, hform, ← hd]
        rfl
      refine ⟨(s.taken (.evacEnd tag)).endPending, (s.taken (.evacEnd tag)).endPending,
        exec_of_pass (effect := evacEndEffect) rfl rfl hpass ?_, ?_⟩
      · simp only [State.taken_evac, hstate, genField]
      · rw [hend]
        exact ⟨rfl, rfl, rfl, hd, hdget, fun _ => ⟨rfl, rfl⟩, nofun⟩
    | active =>
      have hservice := hactive hstate
      have hevacuation : ∀ e ∈ (s.taken (.evacEnd tag)).allEntries, e.cls = .evacuation := fun e he => by
        have := hc e he
        rwa [if_pos hstate] at this
      obtain ⟨v, d, hform, hv, hdget⟩ := exited_form (s := s.taken (.evacEnd tag)) hservice hevacuation
      refine ⟨(s.taken (.evacEnd tag)).exitEvent, (s.taken (.evacEnd tag)).exited,
        exec_of_pass (effect := evacEndEffect) rfl rfl hpass ?_, ?_⟩
      · simp only [State.taken_evac, hstate, genField]
      · rw [exitEvent_eq, hform]
        refine ⟨rfl, rfl, rfl, hd, hdget, nofun, fun _ => ⟨rfl, rfl, rfl, rfl, fun n => ?_, ?_, rfl⟩⟩
        · refine (hv n).trans ?_
          cases hn : s.screens[n] with
          | none => rw [State.taken_screens, hn]; rfl
          | some c =>
            rw [State.taken_screens, hn, Option.map_some, Option.map_some, Session.leaveAlert]
            split <;> rfl
        · rw [State.withPort_port, State.taken_evac, hd]
          rfl

end Sys2Proof.Machine

/-! # Proofs: the checks of START -/

namespace Sys2Proof.Machine

open Sys2Proof.Safety

/-! ## Least failing records -/

/-- A search result for a property of indices: none where no index has it, otherwise the least that has it. -/
def FindsLeast (found : Option Nat) (p : Nat → Prop) : Prop :=
  (found = none ↔ ∀ i, ¬ p i) ∧ ∀ i, found = some i → p i ∧ ∀ j < i, ¬ p j

theorem FindsLeast.congr {found : Option Nat} {p q : Nat → Prop} (h : FindsLeast found p) (hpq : ∀ i, q i ↔ p i) :
    FindsLeast found q := by
  obtain ⟨hnone, hsome⟩ := h
  refine ⟨by simp only [hnone, hpq], fun i hi => ?_⟩
  simpa only [hpq] using hsome i hi

theorem FindsLeast.eq_some {found : Option Nat} {p : Nat → Prop} (h : FindsLeast found p) {i : Nat} (hi : p i)
    (hleast : ∀ j, p j → i ≤ j) : found = some i := by
  obtain ⟨hnone, hsome⟩ := h
  cases hf : found with
  | none => exact absurd hi (hnone.mp hf i)
  | some k =>
    obtain ⟨hk, hbelow⟩ := hsome k hf
    have hik := hleast k hk
    have hki : ¬ i < k := fun hlt => hbelow i hlt hi
    rw [show k = i by omega]

/-- A search of a list in rising order of its keys finds the least key. -/
theorem findsLeast_of_sorted {α : Type} {l : List α} {key : α → Nat} (h : l.Pairwise fun a b => key a < key b)
    (p : α → Bool) : FindsLeast ((l.find? p).map key) fun i => ∃ a ∈ l, key a = i ∧ p a = true := by
  induction l with
  | nil => exact ⟨by simp, nofun⟩
  | cons a l ih =>
    obtain ⟨hlt, hrest⟩ := List.pairwise_cons.mp h
    obtain ⟨hnone, hsome⟩ := ih hrest
    rw [List.find?_cons]
    cases hp : p a with
    | true =>
      refine ⟨⟨nofun, fun hno => absurd ⟨a, List.mem_cons_self, rfl, hp⟩ (hno (key a))⟩, fun i hi => ?_⟩
      cases hi
      refine ⟨⟨a, List.mem_cons_self, rfl, hp⟩, fun j hj => ?_⟩
      rintro ⟨b, hb, hkey, -⟩
      rcases List.mem_cons.mp hb with rfl | hb
      · omega
      · have := hlt b hb
        omega
    | false =>
      have hiff : ∀ i, (∃ b ∈ a :: l, key b = i ∧ p b = true) ↔ ∃ b ∈ l, key b = i ∧ p b = true := by
        intro i
        simp only [List.mem_cons, exists_eq_or_imp, hp, Bool.false_eq_true, and_false, false_or]
      simp only [FindsLeast, hiff]
      exact ⟨hnone, hsome⟩

theorem findsLeast_table {α : Type} {t : Table α} (h : t.wf) (p : Nat × α → Bool) :
    FindsLeast ((t.find? p).map Prod.fst) fun i => ∃ x, t.get i = some x ∧ p (i, x) = true := by
  refine (findsLeast_of_sorted (key := Prod.fst) h p).congr fun i => ?_
  constructor
  · rintro ⟨x, hx, hp⟩
    exact ⟨(i, x), Table.mem_of_get hx, rfl, hp⟩
  · rintro ⟨⟨k, x⟩, hm, rfl, hp⟩
    exact ⟨x, Table.get_of_mem h hm, hp⟩

theorem findsLeast_fin {n : Nat} (p : Fin n → Bool) :
    FindsLeast (((List.finRange n).find? p).map Fin.val) fun i => ∃ k : Fin n, k.val = i ∧ p k = true := by
  refine (findsLeast_of_sorted (key := Fin.val) ?_ p).congr fun i => by simp
  exact List.pairwise_lt_finRange n

/-! ## The six checks of R17 -/

/-- The least record at which a check fails, by the check's place in R17. -/
def State.failing (s : State) : Nat → Option Nat
  | 1 => firstBad (badEnds s.map) s.map.segs
  | 2 => firstBad badGroup s.map.segs
  | 3 => firstBad (badDoors s.map) s.map.listings
  | 4 => (s.map.listings.find? fun q => badTarget s.map q.1 q.2).map Prod.fst
  | 5 => ((List.finRange 48).find? fun (n : Fin 48) => s.screens[n].any fun c => badPoint s.map c.decl).map Fin.val
  | 6 => if s.map.nodes.any fun q => q.2.kind == .exit then none else some 0
  | _ => none

theorem badEnds_iff {m : MapStore} {g : Seg} :
    badEnds m g = true ↔ m.nodes.get g.src = none ∨ m.nodes.get g.dst = none := by
  rw [badEnds, Bool.or_eq_true, Option.isNone_iff_eq_none, Option.isNone_iff_eq_none]

theorem badGroup_iff {g : Seg} : badGroup g = true ↔ g.kind = .lift ∧ g.group = none := by
  rw [badGroup, Bool.and_eq_true, beq_iff_eq, Option.isNone_iff_eq_none]

theorem badDoors_iff {m : MapStore} {l : Listing} :
    badDoors m l = true ↔ ∃ d ∈ l.doors, ∀ n, m.nodes.get d = some n → n.kind ≠ .door := by
  rw [badDoors, List.any_eq_true]
  refine exists_congr fun d => and_congr_right fun _ => ?_
  cases m.nodes.get d <;> simp

theorem badTarget_iff {m : MapStore} {i : Nat} {l : Listing} :
    badTarget m i l = true ↔ ∃ t, l.override = .relocated t ∧ (m.listings.get t = none ∨ t = i) := by
  unfold badTarget
  cases l.override <;> simp

theorem badPoint_iff {m : MapStore} {d : ScreenDecl} :
    badPoint m d = true ↔ ∀ x, m.nodes.get d.point = some x → x.kind ≠ .screenPoint := by
  unfold badPoint
  cases m.nodes.get d.point <;> simp

theorem failing_findsLeast {s : State} (hs : TablesSorted s) (order : Nat) :
    FindsLeast (s.failing order) (StartFailure s order) := by
  obtain ⟨hnodes, hsegs, hlistings⟩ := hs
  match order with
  | 0 => exact ⟨by simp [State.failing, StartFailure], nofun⟩
  | 1 =>
    refine (findsLeast_table hsegs fun q => badEnds s.map q.2).congr fun i => ?_
    simp only [StartFailure, badEnds_iff]
  | 2 =>
    refine (findsLeast_table hsegs fun q => badGroup q.2).congr fun i => ?_
    simp only [StartFailure, badGroup_iff]
  | 3 =>
    refine (findsLeast_table hlistings fun q => badDoors s.map q.2).congr fun i => ?_
    simp only [StartFailure, badDoors_iff]
  | 4 =>
    refine (findsLeast_table hlistings fun q => badTarget s.map q.1 q.2).congr fun i => ?_
    simp only [StartFailure, badTarget_iff, exists_and_left]
  | 5 =>
    refine (findsLeast_fin fun (n : Fin 48) => s.screens[n].any fun c => badPoint s.map c.decl).congr fun i => ?_
    simp only [StartFailure, Option.any_eq_true, badPoint_iff, exists_and_left]
  | 6 =>
    have hexit : ((s.map.nodes.any fun q => q.2.kind == .exit) = true)
        ↔ ¬ ∀ k x, s.map.nodes.get k = some x → x.kind ≠ .exit := by
      simp only [List.any_eq_true, Prod.exists, Table.mem_iff_get hnodes, beq_iff_eq, not_forall, not_not, exists_prop]
    show FindsLeast (if (s.map.nodes.any fun q => q.2.kind == .exit) = true then none else some 0)
      fun i => i = 0 ∧ ∀ k x, s.map.nodes.get k = some x → x.kind ≠ .exit
    split
    · next h => exact ⟨⟨fun _ i hi => hexit.mp h hi.2, fun _ => rfl⟩, nofun⟩
    · next h =>
      have hno := not_not.mp fun hn => h (hexit.mpr hn)
      refine ⟨⟨nofun, fun hi => absurd ⟨rfl, hno⟩ (hi 0)⟩, fun i hi => ?_⟩
      cases hi
      exact ⟨⟨rfl, hno⟩, fun j hj => absurd hj (Nat.not_lt_zero j)⟩
  | n + 7 => exact ⟨by simp [State.failing, StartFailure], nofun⟩

theorem invalid_of_failing {s : State} {order : Nat} {i : Nat} (h : s.failing order = some i)
    (hbefore : ∀ k < order, s.failing k = none) :
    s.invalid = some (startCheckWord order, if order = 6 then none else some i) := by
  match order with
  | 0 => cases h
  | 1 =>
    have h1 : firstBad (badEnds s.map) s.map.segs = some i := h
    rw [State.invalid, h1]
    rfl
  | 2 =>
    have h1 : firstBad (badEnds s.map) s.map.segs = none := hbefore 1 (by decide)
    have h2 : firstBad badGroup s.map.segs = some i := h
    rw [State.invalid, h1, h2]
    rfl
  | 3 =>
    have h1 : firstBad (badEnds s.map) s.map.segs = none := hbefore 1 (by decide)
    have h2 : firstBad badGroup s.map.segs = none := hbefore 2 (by decide)
    have h3 : firstBad (badDoors s.map) s.map.listings = some i := h
    rw [State.invalid, h1, h2, h3]
    rfl
  | 4 =>
    have h1 : firstBad (badEnds s.map) s.map.segs = none := hbefore 1 (by decide)
    have h2 : firstBad badGroup s.map.segs = none := hbefore 2 (by decide)
    have h3 : firstBad (badDoors s.map) s.map.listings = none := hbefore 3 (by decide)
    obtain ⟨q, hq, rfl⟩ := Option.map_eq_some_iff.mp h
    rw [State.invalid, h1, h2, h3, hq]
    rfl
  | 5 =>
    have h1 : firstBad (badEnds s.map) s.map.segs = none := hbefore 1 (by decide)
    have h2 : firstBad badGroup s.map.segs = none := hbefore 2 (by decide)
    have h3 : firstBad (badDoors s.map) s.map.listings = none := hbefore 3 (by decide)
    have h4 := Option.map_eq_none_iff.mp (hbefore 4 (by decide))
    obtain ⟨n, hn, rfl⟩ := Option.map_eq_some_iff.mp h
    rw [State.invalid, h1, h2, h3, h4, hn]
    rfl
  | 6 =>
    have h1 : firstBad (badEnds s.map) s.map.segs = none := hbefore 1 (by decide)
    have h2 : firstBad badGroup s.map.segs = none := hbefore 2 (by decide)
    have h3 : firstBad (badDoors s.map) s.map.listings = none := hbefore 3 (by decide)
    have h4 := Option.map_eq_none_iff.mp (hbefore 4 (by decide))
    have h5 := Option.map_eq_none_iff.mp (hbefore 5 (by decide))
    rw [State.invalid, h1, h2, h3, h4, h5]
    have h : (if (s.map.nodes.any fun q => q.2.kind == .exit) = true then none else some 0) = some i := h
    split at h
    · cases h
    · next hno => exact if_neg hno
  | n + 7 => cases h

theorem invalid_of_none_failing {s : State} (h : ∀ k, s.failing k = none) : s.invalid = none := by
  have h4 := Option.map_eq_none_iff.mp (h 4)
  have h5 := Option.map_eq_none_iff.mp (h 5)
  have h6 : (if (s.map.nodes.any fun q => q.2.kind == .exit) = true then none else some 0) = none := h 6
  rw [State.invalid, show firstBad (badEnds s.map) s.map.segs = none from h 1,
    show firstBad badGroup s.map.segs = none from h 2, show firstBad (badDoors s.map) s.map.listings = none from h 3, h4, h5]
  split at h6
  · next hexit => exact if_pos hexit
  · cases h6

/-- The checks of START in R17's order, each at its least record. -/
theorem invalid_spec {s : State} (hs : TablesSorted s) :
    (s.invalid = none ↔ ∀ order i, ¬ StartFailure s order i)
    ∧ ∀ order i, StartFailure s order i → (∀ k j, StartFailure s k j → order < k ∨ order = k ∧ i ≤ j) →
        s.invalid = some (startCheckWord order, if order = 6 then none else some i) := by
  have hleast : ∀ order i, StartFailure s order i → (∀ k j, StartFailure s k j → order < k ∨ order = k ∧ i ≤ j) →
      s.invalid = some (startCheckWord order, if order = 6 then none else some i) := by
    intro order i hi hfirst
    refine invalid_of_failing ((failing_findsLeast hs order).eq_some hi fun j hj => ?_) fun k hk => ?_
    · have := hfirst order j hj
      omega
    · rw [(failing_findsLeast hs k).1]
      intro j hj
      have := hfirst k j hj
      omega
  refine ⟨⟨fun hvalid order => ?_, fun hno => invalid_of_none_failing fun k => (failing_findsLeast hs k).1.mpr (hno k)⟩,
    hleast⟩
  induction order using Nat.strong_induction_on with
  | _ order ih =>
    by_contra hsome
    have hfound : s.failing order ≠ none := fun h => hsome ((failing_findsLeast hs order).1.mp h)
    obtain ⟨i, hi⟩ := Option.ne_none_iff_exists'.mp hfound
    have := invalid_of_failing hi fun k hk => (failing_findsLeast hs k).1.mpr (ih k hk)
    rw [hvalid] at this
    cases this

end Sys2Proof.Machine

/-! # Proofs: START and STOP -/

namespace Sys2Proof.Machine

open Sys2Proof.Safety

/-! ## START (R17, R18) -/

theorem enterService_form (s : State) :
    ∃ v w, s.enterService = ((s.withMap { s.map with mode := .service, generation := 0 }).withScreens v).withClock
          { s.clock with timers := w }
      ∧ (∀ n : Fin 48, v[n] = (s.screens[n]).map fun c => { c with session :=
          { state := .idle, language := c.decl.language, profile := .standard, stack := [], pending := none
            shown := none, evac := none, idle := none } })
      ∧ ∀ k : Fin 8, w[k] = { s.clock.timers[k] with state := s.clock.timers[k].setting } := by
  obtain ⟨v, hv, hvget⟩ := mapSessions_form (s.withMap { s.map with mode := .service, generation := 0 })
    fun d ses => ses.toIdle d
  refine ⟨v, mapFin (fun _ t => t.start) s.clock.timers, ?_, hvget, fun k => mapFin_get ..⟩
  unfold State.enterService
  rw [hv]
  rfl

/-- The map at the end of an entry event: its generation has moved on by one. -/
theorem entered_map {s : State} (hm : s.map.mode = .service) (cause : EvacCause) :
    (s.entered cause).map = { s.map with generation := (s.map.generation + 1) % 4294967296 } := by
  have hended := RouteKeeps.endEntries (s.evacTo .active) (fun e => e.cls == .normal) .evacCancelled
  have hmap : ((s.evacTo .active).endEntries (fun e => e.cls == .normal) .evacCancelled).map = s.map := hended.map
  rw [entered_eq_alarmed]
  obtain ⟨v, w, d, halarmed, _⟩ := alarmed_form (hmap ▸ hm) cause
  rw [halarmed]
  simp only [State.withPort_map, State.withClock_map, State.withScreens_map, State.withEvac_map, State.withUnits_map,
    State.withMap_map, hmap]

/-- Settles O28. -/
theorem startEntersService : Obligations.StartEntersService := by
  intro s tag hload
  have hpass : ∀ q ∈ [inLoad (s.taken (.start tag))], q.1 = true := by simp [inLoad, hload]
  have hinvalid : (s.taken (.start tag)).invalid = s.invalid := rfl
  refine ⟨fun hvalid hne => ?entered, fun hvalid hpending => ?evacuated, fun check index hbad => ?refused, invalid_spec⟩
  case entered =>
    obtain ⟨v, w, hform, hv, hw⟩ := enterService_form (s.taken (.start tag))
    refine ⟨(s.taken (.start tag)).enterService, exec_of_pass (effect := startEffect) rfl rfl hpass ?_, ?_⟩
    · have hne' : (s.taken (.start tag)).evac.state ≠ .pending := hne
      simp only [hinvalid, hvalid, if_neg hne']
    · rw [hform]
      exact ⟨rfl, hv, hw, rfl⟩
  case evacuated =>
    obtain ⟨v, w, hform, hv, hw⟩ := enterService_form (s.taken (.start tag))
    have hservice : (s.taken (.start tag)).enterService.map.mode = .service := by rw [hform]; rfl
    have hframe := entered_frame (s.taken (.start tag)).enterService .start
    have hmap := entered_map hservice .start
    obtain ⟨_, hactive, hack, _, hsome, _⟩ := hframe
    have hmoves := RouteMoves.settle ((s.taken (.start tag)).enterService.entered .start)
    have halert := entered_sessions (s.taken (.start tag)).enterService .start
    have halert : SessionsHold SoundAlert ((s.taken (.start tag)).enterService.entered .start).settle :=
      .of_take hmoves.sessions soundAlert_takes halert
    have hmap' : ((s.taken (.start tag)).enterService.entered .start).map
        = { s.map with mode := .service, generation := 1 } := by
      rw [hmap, hform]
      rfl
    refine ⟨((s.taken (.start tag)).enterService.entered .start).settle,
      exec_of_pass (effect := startEffect) rfl rfl hpass ?_, hmoves.keeps.map.trans hmap', hmoves.keeps.evacState.trans hactive,
      hmoves.keeps.ack.trans hack, fun n => ?_, fun n c hc => (halert n c hc).2, fun hm => ?_⟩
    · have hpending' : (s.taken (.start tag)).evac.state = .pending := hpending
      simp only [hinvalid, hvalid, if_pos hpending', entryEvent_eq]
    · refine (isSome_of_take hmoves.sessions n).trans ((hsome n).trans ?_)
      rw [hform]
      exact (congrArg Option.isSome (hv n)).trans (Option.isSome_map ..)
    · have hvacant := vacant_of_load hm hload
      have hno : (s.taken (.start tag)).enterService.allEntries = [] := by
        rw [hform]
        exact vacant_allEntries hvacant
      have hdue : ∀ n : Fin 48, (s.taken (.start tag)).enterService.evac.due[n] = true →
          ((s.taken (.start tag)).enterService.screens[n]).isSome = true := by
        intro n hn
        rw [hform] at hn
        have hn : s.evac.due[n] = true := hn
        rw [due_of_inactive hm (by rw [hpending]; nofun)] at hn
        cases hn
      obtain ⟨v', w', d, hentered, hv', hw', hd⟩ := entered_form hservice (by rw [hno]; nofun) hdue .start
      refine ⟨_, rfl, hmap'.trans (hmoves.keeps.map.trans hmap').symm, ?_⟩
      rw [hno] at hentered
      rw [hform] at hentered hv' hw' hd ⊢
      rw [hentered]
      obtain ⟨hq, hu⟩ := hvacant
      refine ⟨fun n => ?_, rfl, fun n => ?_, fun k => ?_, rfl, ?_⟩
      · exact (hd n).trans ((congrArg Option.isSome (hv n)).trans (Option.isSome_map ..))
      · refine (hv' n).trans ?_
        rw [State.withClock_screens, State.withScreens_screens, hv, Option.map_map]
        rfl
      · exact (hw' k).trans (by rw [State.withClock_clock, hw]; rfl)
      · have hqueue : ({ s.queue with entries := [] } : RouteQueue) = s.queue := by rw [← hq]
        refine state_ext rfl rfl hqueue hu.symm rfl rfl rfl rfl rfl rfl rfl rfl
  case refused =>
    refine exec_of_pass (effect := startEffect) rfl rfl hpass ?_
    simp only [hinvalid, hbad]
    cases index <;> rfl

/-! ## STOP (R19) -/

theorem stopEvac_form (s : State) :
    ∃ d, s.stopEvac = (if s.evac.state = .active then (s.withEvac { s.evac with state := .pending, due := d }).withPort
          (s.port.post (.evac .pending .stop s.evac.debounced s.map.generation))
        else s) ∧ ∀ n : Fin 48, d[n] = false := by
  obtain ⟨d, hd, hdget⟩ := clearDue_form (s.evacTo .pending)
  refine ⟨d, ?_, hdget⟩
  unfold State.stopEvac
  rw [hd, State.evacActive]
  simp only [beq_iff_eq] <;> rfl

theorem leaveService_form (s : State) :
    ∃ v w d, s.leaveService = (((((((s.withMap { s.map with mode := .load }).withQueue { s.queue with entries := [] }).withUnits
          { a := none, b := none }).withScreens v).withClock { s.clock with timers := w }).withEvac
          (if s.evac.state = .active then { s.evac with state := .pending, due := d } else s.evac)).withPort
          (if s.evac.state = .active then (postEnded s .serviceStopped s.allEntries s.port).post
              (.evac .pending .stop s.evac.debounced s.map.generation)
            else postEnded s .serviceStopped s.allEntries s.port))
      ∧ (∀ n : Fin 48, v[n] = (s.screens[n]).map fun c => { c with session :=
          { state := .dormant, language := c.decl.language, profile := .standard, stack := [], pending := none
            shown := none, evac := none, idle := none } })
      ∧ (∀ k : Fin 8, w[k] = { s.clock.timers[k] with state := .halt, due := false })
      ∧ ∀ n : Fin 48, d[n] = false := by
  obtain ⟨v0, hended, htake⟩ := endAll_form (o := .serviceStopped) rfl s (test := fun _ => true) fun _ _ => rfl
  unfold State.leaveService
  rw [hended]
  obtain ⟨v, hv, hvget⟩ := mapSessions_form
    (((((s.withQueue { s.queue with entries := [] }).withUnits { a := none, b := none }).withScreens v0).withPort
      (postEnded s .serviceStopped s.allEntries s.port)).withMap { s.map with mode := .load }) fun d ses => ses.toDormant d
  obtain ⟨d, hd, hdget⟩ := stopEvac_form (((((((s.withQueue { s.queue with entries := [] }).withUnits
      { a := none, b := none }).withScreens v0).withPort (postEnded s .serviceStopped s.allEntries s.port)).withMap
      { s.map with mode := .load }).withScreens v).withClock { s.clock with timers := mapFin (fun _ t => t.stop) s.clock.timers })
  refine ⟨v, mapFin (fun _ t => t.stop) s.clock.timers, d, ?_, fun n => ?_, fun k => mapFin_get .., hdget⟩
  · dsimp only [State.withPort_map, State.withScreens_map, State.withUnits_map, State.withQueue_map]
    rw [hv]
    refine hd.trans ?_
    by_cases ha : s.evac.state = .active
    · rw [if_pos ha, if_pos ha]
      exact if_pos ha
    · rw [if_neg ha, if_neg ha]
      exact if_neg ha
  · refine (hvget n).trans ?_
    rcases htake n with ⟨hs, ht⟩ | ⟨c, x, hs, ht, _⟩
    · have ht : v0[n] = none := ht
      rw [State.withMap_screens, State.withPort_screens, State.withScreens_screens, ht, hs]
      rfl
    · have ht : v0[n] = some { c with session := x } := ht
      rw [State.withMap_screens, State.withPort_screens, State.withScreens_screens, ht, hs]
      rfl

theorem inLoad_fails {s : State} {c : Instr} (h : s.map.mode = .service) (rest : List (Bool × Answer)) :
    firstFailing (inLoad (s.taken c) :: rest) = some (.no .wrongMode) := by
  simp [firstFailing, inLoad, h]

/-- Settles O29. -/
theorem stopLeavesService : Obligations.StopLeavesService := by
  intro s tag
  refine ⟨fun hm => ?stopped, fun hm => ?load, fun hm c hc => ?refused⟩
  case stopped =>
    obtain ⟨v, w, d, hform, hv, hw, hd⟩ := leaveService_form (s.taken (.stop tag))
    have hstate : (s.taken (.stop tag)).evac.state = s.evac.state := rfl
    refine ⟨(s.taken (.stop tag)).leaveService, exec_of_pass (effect := stopEffect) rfl rfl ?_ ?_, ?_⟩
    · simp [State.inService, hm]
    · rw [hform]
      rfl
    · rw [hform]
      refine ⟨rfl, rfl, rfl, hv, hw, rfl, rfl, rfl, rfl, ?_, ?_, ?_, rfl, rfl, fun ha => ?_, fun ha => ?_, fun p hp => ?_, rfl⟩
      · rw [State.withPort_evac, State.withEvac_evac]
        split <;> rfl
      · rw [State.withPort_evac, State.withEvac_evac]
        split <;> rfl
      · rw [State.withPort_evac, State.withEvac_evac]
        split <;> rfl
      · rw [State.withPort_evac, State.withEvac_evac, hstate, if_pos ha]
        exact ⟨rfl, hd⟩
      · rw [State.withPort_evac, State.withEvac_evac, hstate, if_neg ha]
        rfl
      · rw [State.withPort_port, hp, hstate]
        rfl
  case load =>
    refine exec_of_fail (effect := stopEffect) rfl rfl ?_
    simp [firstFailing, State.inService, hm]
  case refused =>
    rcases hc with rfl | rfl | ⟨i, a, rfl | rfl⟩ | ⟨i, a, rfl | rfl⟩ | ⟨i, a, rfl, hweek⟩ | ⟨i, a, rfl⟩ | ⟨i, a, rfl | rfl⟩
    case inr.inr.inr.inr.inl =>
      have hwhole : weekWhole a.days = true := by
        rcases hweek with h | h
        · exact (weekOf_eq (week := some (mapFin (fun _ d => d.getD .closed) a.days)) fun n => by
            obtain ⟨e, he⟩ := Option.isSome_iff_exists.mp (h n)
            rw [Option.map_some, mapFin_get, he]
            rfl).1
        · exact (weekOf_eq (week := none) h).1
      refine exec_of_fail (effect := listingPutEffect i a) rfl rfl ?_
      rw [firstFailing, hwhole]
      exact inLoad_fails hm _
    all_goals exact exec_of_fail rfl rfl (inLoad_fails hm _)

end Sys2Proof.Machine

/-! # Proofs: writes to the cost tables -/

namespace Sys2Proof.Machine

theorem paceStored_eq (p : Profile) (k : SegKind) (v : Nat) :
    paceStored p k v = if p = .evacuation ∧ k = .lift then 0 else v := by
  simp only [paceStored, paceHeld, Bool.and_eq_true, beq_iff_eq]

/-- A bump that waits for a change, told by the equality of the old value and the new. -/
theorem bumpIf_ne (s : State) (w old : Nat) : s.bumpIf (w != old) = if w = old then s else s.bump := by
  by_cases h : w = old <;> simp [State.bumpIf, h]

theorem flagVal_ne (w v : Nat) : flagVal (w != v) = .num (if w = v then 0 else 1) := by
  rw [show (w != v) = decide (w ≠ v) by simp [bne, beq_eq_decide], flagVal_decide]
  simp only [ne_eq, ite_not]

/-- Settles O30. -/
theorem costTableWritesStoreAndBump : Obligations.CostTableWritesStoreAndBump := by
  refine fun s tag v p hv => ⟨fun k w hw => ⟨s.map.setPace p k w, _, rfl, ?paceOf, rfl, ?pace⟩,
    fun c w hw => ⟨s.map.setMult p c w, _, rfl, ?multOf, rfl, ?mult⟩⟩
  case paceOf => exact fun q j => MapStore.paceOf_setPace s.map p q k j w
  case multOf => exact fun q d => MapStore.multOf_setMult s.map p q c d w
  case pace =>
    refine exec_of_pass rfl rfl (by simp [inRange, hv]) ?_
    simp only [paceStored_eq, ← hw, bumpIf_ne, flagVal_ne, State.taken_map] <;> rfl
  case mult =>
    have hstored : multStored v = w := hw.symm
    refine exec_of_pass rfl rfl (by simp [inRange, hv]) ?_
    simp only [hstored, bumpIf_ne, flagVal_ne, State.taken_map] <;> rfl

end Sys2Proof.Machine

/-! # Proofs: the search finds the chosen path (R60)

The tests of R60 order paths by a key, lexicographically; the rounds of the search keep, for each node, a path whose key is
at most that of every path to the set with as many segments as rounds were made; and a path that repeats a segment is longer
than another one that costs no more. -/

namespace Sys2Proof.Machine

open Sys2Proof.Safety

/-! ## The order of paths -/

/-- What the tests of R60 compare, in their order: cost, number of segments, node indices, segment indices. -/
abbrev PathKey : Type := ℕ ×ₗ ℕ ×ₗ List ℕ ×ₗ List ℕ

/-- The key of a path under a cost function. -/
def pathKey (w : Hop → Nat) (p : Path) : PathKey :=
  toLex (pathCost w p, toLex (p.length, toLex (p.map Hop.dst, p.map Hop.seg)))

/-- One test of R60: the lower value decides, and of equal values the tests that follow. -/
theorem test_iff {α : Type} [LinearOrder α] {a b : α} {rest : Bool} [Decidable (a < b)] [Decidable (b < a)] :
    (if a < b then true else if b < a then false else rest) = true ↔ a < b ∨ a = b ∧ rest = true := by
  rcases lt_trichotomy a b with h | h | h
  · simp [h]
  · simp [h]
  · simp [h, h.not_gt, h.ne']

theorem lexLt_iff {a b : List Nat} : lexLt a b = true ↔ a < b := by
  induction a generalizing b with
  | nil => cases b <;> simp [lexLt]
  | cons x xs ih =>
    cases b with
    | nil => simp [lexLt]
    | cons y ys => rw [lexLt, List.cons_lt_cons_iff, ← ih, test_iff]

theorem pathKey_lt_iff {w : Hop → Nat} {p q : Path} : pathKey w p < pathKey w q ↔
    pathCost w p < pathCost w q ∨ pathCost w p = pathCost w q ∧ (p.length < q.length
      ∨ p.length = q.length ∧ (p.map Hop.dst < q.map Hop.dst
        ∨ p.map Hop.dst = q.map Hop.dst ∧ p.map Hop.seg < q.map Hop.seg)) := by
  simp only [pathKey, Prod.Lex.toLex_lt_toLex]

theorem pathBefore_iff {w : Hop → Nat} {p q : Path} : pathBefore w p q = true ↔ pathKey w p < pathKey w q := by
  simp only [pathBefore, lexLt_iff, test_iff, pathKey_lt_iff]

theorem pathBefore_eq_false {w : Hop → Nat} {p q : Path} (h : ¬ pathBefore w p q = true) : pathKey w q ≤ pathKey w p :=
  not_lt.mp fun hlt => h (pathBefore_iff.mpr hlt)

theorem pathKey_cons_lt {w : Hop → Nat} {p q : Path} (h : Hop) :
    pathKey w (h :: p) < pathKey w (h :: q) ↔ pathKey w p < pathKey w q := by
  simp [pathKey_lt_iff, pathCost]

theorem pathKey_cons_le {w : Hop → Nat} {p q : Path} (h : Hop) (hle : pathKey w p ≤ pathKey w q) :
    pathKey w (h :: p) ≤ pathKey w (h :: q) :=
  not_lt.mp fun hlt => hle.not_gt ((pathKey_cons_lt h).mp hlt)

/-- A path with fewer segments that costs no more comes first. -/
theorem pathKey_le_of_shorter {w : Hop → Nat} {p q : Path} (hcost : pathCost w p ≤ pathCost w q)
    (hlength : p.length < q.length) : pathKey w p ≤ pathKey w q :=
  (pathKey_lt_iff.mpr (hcost.lt_or_eq.imp id fun h => ⟨h, .inl hlength⟩)).le

end Sys2Proof.Machine

/-! ## Paths over a view -/

namespace Sys2Proof.Safety

open Sys2Proof.Machine

theorem IsPath.subset {view : List Hop} {targets : List Nat} {n : Nat} {p : Path} (h : IsPath view targets n p) :
    p ⊆ view := by
  induction p generalizing n with
  | nil => exact List.nil_subset view
  | cons x p ih =>
    obtain ⟨hx, -, hp⟩ := h
    exact List.cons_subset.mpr ⟨hx, ih hp⟩

/-- The rest of a path behind some of its segments is a path from where they end; so is the last of them with it. -/
theorem IsPath.append {view : List Hop} {targets : List Nat} {n : Nat} {a b : Path} {x : Hop}
    (h : IsPath view targets n (a ++ x :: b)) : IsPath view targets x.src (x :: b) := by
  induction a generalizing n with
  | nil =>
    obtain ⟨hx, -, hb⟩ := h
    exact ⟨hx, rfl, hb⟩
  | cons y a ih => exact ih h.2.2

/-- A path that repeats a segment has a shorter one beside it that costs no more: the loop is left out. -/
theorem IsPath.shorten {view : List Hop} {targets : List Nat} {n : Nat} {p : Path} (w : Hop → Nat)
    (h : IsPath view targets n p) (hrepeat : ¬ p.Nodup) :
    ∃ q, IsPath view targets n q ∧ q.length < p.length ∧ pathCost w q ≤ pathCost w p := by
  induction p generalizing n with
  | nil => exact absurd List.nodup_nil hrepeat
  | cons x p ih =>
    obtain ⟨hx, hsrc, hp⟩ := h
    by_cases hmem : x ∈ p
    · obtain ⟨a, b, rfl⟩ := List.append_of_mem hmem
      refine ⟨x :: b, ⟨hx, hsrc, hp.append.2.2⟩, by simp only [List.length_cons, List.length_append]; omega, ?_⟩
      simp only [pathCost, List.map_cons, List.map_append, List.sum_cons, List.sum_append]
      omega
    · have hrest : ¬ p.Nodup := fun hnodup => hrepeat (List.nodup_cons.mpr ⟨hmem, hnodup⟩)
      obtain ⟨q, hq, hlength, hcost⟩ := ih hp hrest
      refine ⟨x :: q, ⟨hx, hsrc, hq⟩, Nat.succ_lt_succ hlength, ?_⟩
      simpa only [pathCost, List.map_cons, List.sum_cons] using Nat.add_le_add_left hcost (w x)

/-- Every path has one before it, or is one, with at most as many segments as the view. -/
theorem IsPath.exists_short {view : List Hop} {targets : List Nat} {n : Nat} {p : Path} (w : Hop → Nat)
    (h : IsPath view targets n p) :
    ∃ q, IsPath view targets n q ∧ q.length ≤ view.length ∧ pathKey w q ≤ pathKey w p := by
  induction hk : p.length using Nat.strong_induction_on generalizing p with
  | _ k ih =>
    by_cases hnodup : p.Nodup
    · exact ⟨p, h, (hnodup.subperm h.subset).length_le, le_rfl⟩
    · obtain ⟨r, hr, hlength, hcost⟩ := h.shorten w hnodup
      obtain ⟨q, hq, hshort, hle⟩ := ih r.length (hk ▸ hlength) hr rfl
      exact ⟨q, hq, hshort, hle.trans (pathKey_le_of_shorter hcost hlength)⟩

end Sys2Proof.Safety

namespace Sys2Proof.Machine

open Sys2Proof.Safety

/-- Two paths over segments that are distinct, alike in their segment indices, are one. -/
theorem eq_of_map_seg {view : List Hop} (hview : (view.map Hop.seg).Nodup) {p q : Path} (hp : p ⊆ view) (hq : q ⊆ view)
    (h : p.map Hop.seg = q.map Hop.seg) : p = q := by
  induction p generalizing q with
  | nil => exact (List.map_eq_nil_iff.mp h.symm).symm
  | cons x p ih =>
    cases q with
    | nil => cases h
    | cons y q =>
      obtain ⟨hx, hp⟩ := List.cons_subset.mp hp
      obtain ⟨hy, hq⟩ := List.cons_subset.mp hq
      obtain ⟨hseg, hrest⟩ := List.cons_eq_cons.mp h
      rw [List.inj_on_of_nodup_map hview hx hy hseg, ih hp hq hrest]

theorem eq_of_pathKey {view : List Hop} (hview : (view.map Hop.seg).Nodup) {w : Hop → Nat} {p q : Path} (hp : p ⊆ view)
    (hq : q ⊆ view) (h : pathKey w p = pathKey w q) : p = q :=
  eq_of_map_seg hview hp hq (congrArg (fun k => (ofLex (ofLex (ofLex k).2).2).2) h)

/-! ## The rounds of the search -/

/-- Every path kept in the table is one, from the node it stands at. -/
def HoldsPaths (view : List Hop) (targets : List Nat) (t : Bests) : Prop :=
  ∀ n p, t.get n = some p → IsPath view targets n p

/-- The table has, at each node, a path that comes before every path to the set of at most `k` segments, or is it. -/
def Covers (w : Hop → Nat) (view : List Hop) (targets : List Nat) (k : Nat) (t : Bests) : Prop :=
  ∀ n q, IsPath view targets n q → q.length ≤ k → ∃ p, t.get n = some p ∧ pathKey w p ≤ pathKey w q

/-- A table whose paths are no later than those of another. -/
def NoLater (w : Hop → Nat) (t u : Bests) : Prop :=
  ∀ n q, u.get n = some q → ∃ p, t.get n = some p ∧ pathKey w p ≤ pathKey w q

theorem NoLater.refl (w : Hop → Nat) (t : Bests) : NoLater w t t := fun _ q h => ⟨q, h, le_rfl⟩

theorem NoLater.trans {w : Hop → Nat} {t u v : Bests} (h : NoLater w t u) (h' : NoLater w u v) : NoLater w t v :=
  fun n q hq =>
    have ⟨_, hp, hle⟩ := h' n q hq
    have ⟨r, hr, hle'⟩ := h n _ hp
    ⟨r, hr, hle'.trans hle⟩

/-- What an offer makes of the table: the path put at its node, or nothing where one no later stands there. -/
theorem offer_cases (w : Hop → Nat) (t : Bests) (n : Nat) (p : Path) :
    (offer w t n p = (t.put n p, true) ∧ ∀ q, t.get n = some q → pathKey w p ≤ pathKey w q)
      ∨ offer w t n p = (t, false) ∧ ∃ q, t.get n = some q ∧ pathKey w q ≤ pathKey w p := by
  unfold offer
  split
  · next hnone => exact .inl ⟨rfl, fun q hq => by simp [hnone] at hq⟩
  · next q hq =>
    split
    · next hbefore =>
      exact .inl ⟨rfl, fun r hr => by
        rw [hq] at hr
        cases hr
        exact (pathBefore_iff.mp hbefore).le⟩
    · next hbefore => exact .inr ⟨rfl, q, hq, pathBefore_eq_false hbefore⟩

theorem offer_noLater (w : Hop → Nat) (t : Bests) (n : Nat) (p : Path) :
    NoLater w (offer w t n p).1 t ∧ ∃ q, (offer w t n p).1.get n = some q ∧ pathKey w q ≤ pathKey w p := by
  rcases offer_cases w t n p with ⟨heq, hbefore⟩ | ⟨heq, hstands⟩
  · rw [heq]
    refine ⟨fun m q hq => ?_, p, Table.get_put_self t n p, le_rfl⟩
    rw [Table.get_put]
    split
    · next hm => exact ⟨p, rfl, hbefore q (hm ▸ hq)⟩
    · exact ⟨q, hq, le_rfl⟩
  · rw [heq]
    exact ⟨.refl w t, hstands⟩

theorem offer_holdsPaths {w : Hop → Nat} {view : List Hop} {targets : List Nat} {t : Bests} (ht : HoldsPaths view targets t)
    {n : Nat} {p : Path} (hp : IsPath view targets n p) : HoldsPaths view targets (offer w t n p).1 := by
  rcases offer_cases w t n p with ⟨heq, -⟩ | ⟨heq, -⟩
  · rw [heq]
    intro m q hq
    rw [Table.get_put] at hq
    split at hq
    · next hm =>
      cases hq
      exact hm ▸ hp
    · exact ht m q hq
  · rw [heq]
    exact ht

theorem relaxHop_noLater (w : Hop → Nat) (acc : Bests × Bool) (h : Hop) :
    NoLater w (relaxHop w acc h).1 acc.1
      ∧ ∀ p, acc.1.get h.dst = some p → ∃ q, (relaxHop w acc h).1.get h.src = some q ∧ pathKey w q ≤ pathKey w (h :: p) := by
  unfold relaxHop
  split
  · next hnone => exact ⟨.refl w _, fun p hp => by simp [hnone] at hp⟩
  · next p hp =>
    obtain ⟨hlater, htaken⟩ := offer_noLater w acc.1 h.src (h :: p)
    refine ⟨hlater, fun q hq => ?_⟩
    rw [hp] at hq
    cases hq
    exact htaken

theorem relaxHop_holdsPaths {w : Hop → Nat} {view : List Hop} {targets : List Nat} {acc : Bests × Bool}
    (ht : HoldsPaths view targets acc.1) {h : Hop} (hh : h ∈ view) : HoldsPaths view targets (relaxHop w acc h).1 := by
  unfold relaxHop
  split
  · exact ht
  · next p hp => exact offer_holdsPaths ht ⟨hh, rfl, ht _ p hp⟩

/-- A segment that changed nothing left the table as it stood. -/
theorem relaxHop_unchanged {w : Hop → Nat} {acc : Bests × Bool} {h : Hop} (hflag : (relaxHop w acc h).2 = false) :
    (relaxHop w acc h) = acc := by
  unfold relaxHop at hflag ⊢
  split at hflag
  · rfl
  · next p hp =>
    rcases offer_cases w acc.1 h.src (h :: p) with ⟨heq, -⟩ | ⟨heq, -⟩
    · simp [heq] at hflag
    · simp [heq]

/-- What a fold of segments leaves: a table no later than before, with every segment of the fold tried. -/
theorem foldl_relaxHop_noLater (w : Hop → Nat) (hops : List Hop) (acc : Bests × Bool) :
    NoLater w (hops.foldl (relaxHop w) acc).1 acc.1
      ∧ ∀ h ∈ hops, ∀ p, acc.1.get h.dst = some p →
          ∃ q, (hops.foldl (relaxHop w) acc).1.get h.src = some q ∧ pathKey w q ≤ pathKey w (h :: p) := by
  induction hops generalizing acc with
  | nil => exact ⟨.refl w _, fun h hh => absurd hh List.not_mem_nil⟩
  | cons x hops ih =>
    obtain ⟨hx, htried⟩ := relaxHop_noLater w acc x
    obtain ⟨hrest, hall⟩ := ih (relaxHop w acc x)
    refine ⟨hrest.trans hx, fun h hh p hp => ?_⟩
    rcases List.mem_cons.mp hh with rfl | hh
    · obtain ⟨q, hq, hle⟩ := htried p hp
      obtain ⟨r, hr, hle'⟩ := hrest _ q hq
      exact ⟨r, hr, hle'.trans hle⟩
    · obtain ⟨q, hq, hle⟩ := hx _ p hp
      obtain ⟨r, hr, hle'⟩ := hall h hh q hq
      exact ⟨r, hr, hle'.trans (pathKey_cons_le h hle)⟩

theorem foldl_relaxHop_holdsPaths {w : Hop → Nat} {view : List Hop} {targets : List Nat} {hops : List Hop} (hsub : hops ⊆ view)
    {acc : Bests × Bool} (ht : HoldsPaths view targets acc.1) :
    HoldsPaths view targets (hops.foldl (relaxHop w) acc).1 := by
  induction hops generalizing acc with
  | nil => exact ht
  | cons x hops ih =>
    obtain ⟨hx, hrest⟩ := List.cons_subset.mp hsub
    exact ih hrest (relaxHop_holdsPaths ht hx)

theorem foldl_relaxHop_unchanged {w : Hop → Nat} {hops : List Hop} {acc : Bests × Bool}
    (hflag : (hops.foldl (relaxHop w) acc).2 = false) : hops.foldl (relaxHop w) acc = acc := by
  induction hops generalizing acc with
  | nil => rfl
  | cons x hops ih =>
    have hrest := ih hflag
    rw [List.foldl_cons] at hflag ⊢
    rw [hrest] at hflag ⊢
    exact relaxHop_unchanged hflag

theorem relax_covers {w : Hop → Nat} {view : List Hop} {targets : List Nat} {k : Nat} {t : Bests}
    (h : Covers w view targets k t) : Covers w view targets (k + 1) (relax w view t).1 := by
  obtain ⟨hlater, htried⟩ := foldl_relaxHop_noLater w view (t, false)
  intro n q hq hlength
  cases q with
  | nil =>
    obtain ⟨p, hp, hle⟩ := h n [] hq (Nat.zero_le k)
    obtain ⟨r, hr, hle'⟩ := hlater n p hp
    exact ⟨r, hr, hle'.trans hle⟩
  | cons x q =>
    obtain ⟨hx, rfl, hrest⟩ := hq
    obtain ⟨p, hp, hle⟩ := h x.dst q hrest (Nat.le_of_succ_le_succ hlength)
    obtain ⟨r, hr, hle'⟩ := htried x hx p hp
    exact ⟨r, hr, hle'.trans (pathKey_cons_le x hle)⟩

/-- A table that a round leaves as it stands covers paths of every length. -/
theorem covers_of_unchanged {w : Hop → Nat} {view : List Hop} {targets : List Nat} {k : Nat} {t : Bests}
    (h : Covers w view targets k t) (hflag : (relax w view t).2 = false) (j : Nat) : Covers w view targets (k + j) t := by
  have hsame : (relax w view t).1 = t := congrArg Prod.fst (foldl_relaxHop_unchanged hflag)
  induction j with
  | zero => exact h
  | succ j ih => exact hsame ▸ relax_covers ih

theorem relaxRounds_covers {w : Hop → Nat} {view : List Hop} {targets : List Nat} {fuel k : Nat} {t : Bests}
    (h : Covers w view targets k t) : Covers w view targets (k + fuel) (relaxRounds w view fuel t) := by
  induction fuel generalizing k t with
  | zero => exact h
  | succ fuel ih =>
    rw [relaxRounds]
    split
    · have := ih (relax_covers h)
      rwa [show k + 1 + fuel = k + (fuel + 1) by omega] at this
    · next hflag => exact covers_of_unchanged h (Bool.eq_false_iff.mpr hflag) (fuel + 1)

theorem relaxRounds_holdsPaths {w : Hop → Nat} {view : List Hop} {targets : List Nat} {fuel : Nat} {t : Bests}
    (h : HoldsPaths view targets t) : HoldsPaths view targets (relaxRounds w view fuel t) := by
  induction fuel generalizing t with
  | zero => exact h
  | succ fuel ih =>
    rw [relaxRounds]
    split
    · exact ih (foldl_relaxHop_holdsPaths (List.Subset.refl view) h)
    · exact h

/-! ## The found path -/

theorem startBests_get (targets : List Nat) (n : Nat) :
    (startBests targets).get n = if n ∈ targets then some [] else none := by
  have hfold : ∀ (ts : List Nat) (t : Bests), (ts.foldl (fun t n => Table.put t n []) t).get n
      = if n ∈ ts then some [] else t.get n := by
    intro ts
    induction ts with
    | nil => simp
    | cons m ts ih =>
      intro t
      rw [List.foldl_cons, ih, Table.get_put]
      by_cases hm : n = m <;> simp [hm]
  exact hfold targets []

/-- What the search under one cost function gives: a path that comes first of all, or none where there is none. -/
theorem bestPath_spec (w : Hop → Nat) (view : List Hop) (origin : Nat) (targets : List Nat) :
    (∀ p, bestPath w view origin targets = some p →
      IsPath view targets origin p ∧ ∀ q, IsPath view targets origin q → pathKey w p ≤ pathKey w q)
    ∧ (bestPath w view origin targets = none → ∀ q, ¬ IsPath view targets origin q) := by
  have hstartPaths : HoldsPaths view targets (startBests targets) := by
    intro n p hp
    rw [startBests_get] at hp
    split at hp
    · next hn =>
      cases hp
      exact hn
    · cases hp
  have hstartCovers : Covers w view targets 0 (startBests targets) := by
    intro n q hq hlength
    obtain rfl := List.length_eq_zero_iff.mp (Nat.le_zero.mp hlength)
    exact ⟨[], (startBests_get targets n).trans (if_pos hq), le_rfl⟩
  have hpaths := relaxRounds_holdsPaths (w := w) (fuel := view.length + 1) hstartPaths
  have hcovers := relaxRounds_covers (fuel := view.length + 1) hstartCovers
  have hfirst : ∀ q, IsPath view targets origin q →
      ∃ p, bestPath w view origin targets = some p ∧ pathKey w p ≤ pathKey w q := by
    intro q hq
    obtain ⟨r, hr, hlength, hle⟩ := hq.exists_short w
    obtain ⟨p, hp, hle'⟩ := hcovers origin r hr (by omega)
    exact ⟨p, hp, hle'.trans hle⟩
  refine ⟨fun p hp => ⟨hpaths origin p hp, fun q hq => ?_⟩, fun hnone q hq => ?_⟩
  · obtain ⟨r, hr, hle⟩ := hfirst q hq
    rw [hp] at hr
    cases hr
    exact hle
  · obtain ⟨p, hp, -⟩ := hfirst q hq
    simp [hnone] at hp

/-- A path of lower key than another, and of a cost below the limit, is chosen before it. -/
theorem chosenBefore_of_cost {p q : Path} (hlow : pathCost Hop.cost p < 999999)
    (h : pathKey Hop.cost p < pathKey Hop.cost q) : ChosenBefore p q := by
  have hheld : heldCost p = pathCost Hop.cost p := Nat.min_eq_right hlow.le
  have hheld' : heldCost q = min 999999 (pathCost Hop.cost q) := rfl
  unfold ChosenBefore
  rw [hheld, hheld', lexLt_iff, lexLt_iff]
  rcases pathKey_lt_iff.mp h with hlt | ⟨heq, hrest⟩
  · exact .inl (by omega)
  · exact .inr ⟨by omega, hrest⟩

/-- Of paths whose cost is held at the limit the later tests choose. -/
theorem chosenBefore_of_held {p q : Path} (hp : 999999 ≤ pathCost Hop.cost p) (hq : 999999 ≤ pathCost Hop.cost q)
    (h : pathKey (fun _ => 0) p < pathKey (fun _ => 0) q) : ChosenBefore p q := by
  have hzero : ∀ r : Path, pathCost (fun _ => 0) r = 0 := fun r => by simp [pathCost]
  have hheld : ∀ r : Path, 999999 ≤ pathCost Hop.cost r → heldCost r = 999999 := fun r hr => Nat.min_eq_left hr
  unfold ChosenBefore
  rw [hheld p hp, hheld q hq, lexLt_iff, lexLt_iff]
  rcases pathKey_lt_iff.mp h with hlt | ⟨-, hrest⟩
  · simp [hzero] at hlt
  · exact .inr ⟨rfl, hrest⟩

theorem pathCost_le_of_pathKey_le {w : Hop → Nat} {p q : Path} (h : pathKey w p ≤ pathKey w q) :
    pathCost w p ≤ pathCost w q :=
  not_lt.mp fun hlt => h.not_gt (pathKey_lt_iff.mpr (.inl hlt))

/-- Settles O32. -/
theorem foundPathIsTheChosenPath : Obligations.FoundPathIsTheChosenPath := by
  intro view origin targets hview
  obtain ⟨hfirst, hno⟩ := bestPath_spec Hop.cost view origin targets
  obtain ⟨hfirst', hno'⟩ := bestPath_spec (fun _ => 0) view origin targets
  have hstrict : ∀ {w : Hop → Nat} {p q : Path}, IsPath view targets origin p → IsPath view targets origin q → q ≠ p →
      pathKey w p ≤ pathKey w q → pathKey w p < pathKey w q := fun hp hq hne hle =>
    hle.lt_of_ne fun heq => hne (eq_of_pathKey hview hp.subset hq.subset heq).symm
  unfold foundPath
  cases hbest : bestPath Hop.cost view origin targets with
  | none => exact ⟨fun p hp => by simp at hp, fun _ => hno hbest⟩
  | some p =>
    obtain ⟨hp, hle⟩ := hfirst p hbest
    dsimp only
    split
    · next hlow =>
      refine ⟨fun r hr => ?_, fun hr => by simp at hr⟩
      cases hr
      exact ⟨hp, fun q hq hne => chosenBefore_of_cost hlow (hstrict hp hq hne (hle q hq))⟩
    · next hheld =>
      have hlimit : ∀ q, IsPath view targets origin q → 999999 ≤ pathCost Hop.cost q := fun q hq =>
        (not_lt.mp hheld).trans (pathCost_le_of_pathKey_le (hle q hq))
      refine ⟨fun r hr => ?_, fun hr => absurd hp (hno' hr p)⟩
      obtain ⟨hr, hle'⟩ := hfirst' r hr
      exact ⟨hr, fun q hq hne => chosenBefore_of_held (hlimit r hr) (hlimit q hq) (hstrict hr hq hne (hle' q hq))⟩

end Sys2Proof.Machine

/-! # Proofs: the view of an attempt, and the legs of a path -/

namespace Sys2Proof.Machine

open Sys2Proof.Safety

/-! ## The view (R28, R55) -/

theorem Seg.zoneClosed_iff {s : State} {g : Seg} :
    g.zoneClosed s = true ↔ ∃ z, g.zone = some z ∧ s.census.zones[z].closed = true := by
  unfold Seg.zoneClosed
  cases g.zone with
  | none => simp
  | some z => simp [State.zone]

theorem Seg.liftRuns_iff {s : State} {g : Seg} :
    g.liftRuns s = true ↔ (g.kind = .lift → ∃ k : Fin 16, g.group = some k ∧ s.map.liftWaits[k] < 255) := by
  unfold Seg.liftRuns Seg.wait?
  cases g.group with
  | none => by_cases h : g.kind = .lift <;> simp [h]
  | some k => by_cases h : g.kind = .lift <;> simp [h]

/-- Condition 4 of R28: the zone is open, or is the origin's own. -/
theorem Seg.zoneAdmits_iff {s : State} {o : Option (Fin 32)} {g : Seg} :
    (!g.zoneClosed s || g.inOriginZone o) = true
      ↔ ∀ z, g.zone = some z → s.census.zones[z].closed = false ∨ o = some z := by
  unfold Seg.zoneClosed Seg.inOriginZone
  cases g.zone with
  | none => simp
  | some z => simp [State.zone, eq_comm (a := some z)]

/-- A segment is usable by the four conditions of R28. -/
theorem Seg.usable_iff {s : State} {p : Profile} {o : Option (Fin 32)} {g : Seg} : g.usable s p o = true ↔
    g.state = .opened ∧ 0 < s.map.paceOf p g.kind
      ∧ (g.kind = .lift → ∃ k : Fin 16, g.group = some k ∧ s.map.liftWaits[k] < 255)
      ∧ ∀ z, g.zone = some z → s.census.zones[z].closed = false ∨ o = some z := by
  simp only [Seg.usable, Bool.and_eq_true, beq_iff_eq, decide_eq_true_eq, Seg.liftRuns_iff, Seg.zoneAdmits_iff, and_assoc]

theorem mem_viewOf {s : State} {p : Profile} {o : Option (Fin 32)} {h : Hop} (hwf : s.map.segs.wf) :
    h ∈ viewOf s p o ↔ ∃ i g, s.map.segs.get i = some g ∧ g.usable s p o = true ∧ g.hop s p o i = h := by
  simp only [viewOf, List.mem_filterMap, Prod.exists, Table.mem_iff_get hwf, Option.ite_none_right_eq_some,
    Option.some.injEq]

theorem viewOf_nodup {s : State} {p : Profile} {o : Option (Fin 32)} (hwf : s.map.segs.wf) :
    ((viewOf s p o).map Hop.seg).Nodup := by
  rw [List.Nodup, List.pairwise_map]
  refine List.Pairwise.filterMap _ (fun a b hlt x hx y hy => ?_) hwf
  obtain ⟨-, hx⟩ := Option.ite_none_right_eq_some.mp hx
  obtain ⟨-, hy⟩ := Option.ite_none_right_eq_some.mp hy
  cases hx
  cases hy
  exact Nat.ne_of_lt hlt

/-- A usable segment lies in a closed zone only by the exception, so that the exception is marked exactly there (R29). -/
theorem Seg.hop_excepted_iff {s : State} {p : Profile} {o : Option (Fin 32)} {g : Seg} (i : Nat)
    (hadmits : (!g.zoneClosed s || g.inOriginZone o) = true) :
    (g.hop s p o i).excepted = true ↔ ∃ z, g.zone = some z ∧ s.census.zones[z].closed = true := by
  rw [← Seg.zoneClosed_iff]
  show (g.zoneClosed s && g.inOriginZone o) = true ↔ _
  cases hc : g.zoneClosed s <;> simp_all

theorem Seg.hop_estimated_iff {s : State} {p : Profile} {o : Option (Fin 32)} {g : Seg} (i : Nat) :
    (g.hop s p o i).estimated = true ↔ ∃ z, g.zone = some z ∧ s.census.zones[z].estimated = true := by
  unfold Seg.hop
  cases g.zone with
  | none => simp
  | some z => simp [State.zone]

/-- Settles O33. -/
theorem viewHoldsTheUsableSegments : Obligations.ViewHoldsTheUsableSegments := by
  refine fun s p o hwf => ⟨viewOf_nodup hwf, fun i h hi => ?_⟩
  rw [mem_viewOf hwf]
  constructor
  · rintro ⟨j, g, hget, husable, rfl⟩
    obtain rfl : j = i := hi
    have hrules := Seg.usable_iff.mp husable
    exact ⟨g, hget, hrules, rfl, rfl, rfl, rfl, rfl, Seg.hop_excepted_iff j (Seg.zoneAdmits_iff.mpr hrules.2.2.2),
      Seg.hop_estimated_iff j⟩
  · rintro ⟨g, hget, hrules, hsrc, hdst, hkind, hlength, hcost, hexcepted, hestimated⟩
    refine ⟨i, g, hget, Seg.usable_iff.mpr hrules, ?_⟩
    have hexc := Bool.eq_iff_iff.mpr
      ((Seg.hop_excepted_iff (p := p) i (Seg.zoneAdmits_iff.mpr hrules.2.2.2)).trans hexcepted.symm)
    have hest := Bool.eq_iff_iff.mpr ((Seg.hop_estimated_iff (p := p) (o := o) i).trans hestimated.symm)
    cases h
    cases hi
    cases hsrc
    cases hdst
    cases hkind
    cases hlength
    cases hcost
    cases hexc
    cases hest
    rfl

/-! ## Legs (R69, R70) -/

/-- A run of segments that share a leg: not empty, of one kind, and one segment alone where that kind is DOOR (R69). -/
def IsRun (r : List Hop) : Prop := r ≠ [] ∧ (∀ h ∈ r, ∀ k ∈ r, h.kind = k.kind) ∧ (1 < r.length → ∀ h ∈ r, h.kind ≠ .door)

/-- Two runs that a path is cut between: of two kinds, or of DOOR (R69). -/
def CutBetween (r q : List Hop) : Prop := ∀ h ∈ r, ∀ k ∈ q, h.kind = k.kind → h.kind = .door

theorem isRun_singleton (h : Hop) : IsRun [h] := by
  refine ⟨List.cons_ne_nil h [], fun x hx y hy => ?_, fun hlong => absurd hlong (by simp)⟩
  rw [List.mem_singleton.mp hx, List.mem_singleton.mp hy]

/-- A run takes one segment more of its kind before it, unless that kind is DOOR. -/
theorem IsRun.cons {h k : Hop} {r : List Hop} (hr : IsRun (k :: r)) (hkind : h.kind = k.kind) (hdoor : h.kind ≠ .door) :
    IsRun (h :: k :: r) := by
  obtain ⟨-, hone, -⟩ := hr
  have hall : ∀ x ∈ h :: k :: r, x.kind = h.kind := fun x hx => by
    rcases List.mem_cons.mp hx with rfl | hx
    · rfl
    · exact (hone x hx k List.mem_cons_self).trans hkind.symm
  exact ⟨List.cons_ne_nil _ _, fun x hx y hy => (hall x hx).trans (hall y hy).symm, fun _ x hx => hall x hx ▸ hdoor⟩

/-- The runs of a path: each is one, a path is cut between each two that follow one another, and all together are the path. -/
theorem legRuns_spec (p : Path) :
    (legRuns p).flatten = p ∧ (∀ r ∈ legRuns p, IsRun r) ∧ (legRuns p).IsChain CutBetween := by
  induction p with
  | nil => simp [legRuns]
  | cons h rest ih =>
    obtain ⟨hflat, hruns, hcut⟩ := ih
    rw [legRuns]
    split
    · next hnil =>
      rw [hnil] at hflat
      refine ⟨by rw [← hflat]; rfl, fun r hr => ?_, List.isChain_singleton _⟩
      exact List.mem_singleton.mp hr ▸ isRun_singleton h
    · next runs hempty =>
      exact absurd rfl (hruns [] (hempty ▸ List.mem_cons_self)).1
    · next k r runs heq =>
      rw [heq] at hflat hruns hcut
      obtain ⟨hk, htail⟩ := List.forall_mem_cons.mp hruns
      split
      · next hjoin =>
        refine ⟨congrArg (h :: ·) hflat, List.forall_mem_cons.mpr ⟨hk.cons hjoin.1 hjoin.2, htail⟩, ?_⟩
        cases runs with
        | nil => exact List.isChain_singleton _
        | cons q runs =>
          obtain ⟨hfirst, hrest⟩ := List.isChain_cons_cons.mp hcut
          refine List.isChain_cons_cons.mpr ⟨fun x hx y hy hxy => ?_, hrest⟩
          rcases List.mem_cons.mp hx with rfl | hx
          · exact hjoin.1.trans (hfirst k List.mem_cons_self y hy (hjoin.1.symm.trans hxy))
          · exact hfirst x hx y hy hxy
      · next hapart =>
        refine ⟨congrArg (h :: ·) hflat, List.forall_mem_cons.mpr ⟨isRun_singleton h, hruns⟩,
          List.isChain_cons_cons.mpr ⟨fun x hx y hy hxy => ?_, hcut⟩⟩
        obtain rfl := List.mem_singleton.mp hx
        by_contra hdoor
        exact hapart ⟨hxy.trans (hk.2.1 y hy k List.mem_cons_self), hdoor⟩

theorem legOf_of_last {m : MapStore} {kind : LegKind} {run : List Hop} {k : Hop} (h : run.getLast? = some k) :
    legOf m kind run = { kind := kind, endNode := k.dst, endLevel := nodeLevel m k.dst
                         distance := min 65535 (run.map Hop.length).sum, count := run.length } := by
  simp only [legOf, h, Option.map_some, Option.getD_some]

theorem exists_getLast? {r : List Hop} (h : r ≠ []) : ∃ k, r.getLast? = some k :=
  ⟨r.getLast h, List.getLast?_eq_some_getLast h⟩

theorem exists_head? {r : List Hop} (h : r ≠ []) : ∃ k, r.head? = some k := ⟨r.head h, List.head?_eq_some_head h⟩

/-- The legs of a path are those of its runs, but past 24 runs the 24th leg, which is CONTINUE. -/
theorem legsOf_getElem? (m : MapStore) (p : Path) {i : Nat} {r : List Hop} (hr : (legRuns p)[i]? = some r)
    (hshort : i < 23 ∨ (legRuns p).length ≤ 24) : (legsOf m p)[i]? = some (legOfRun m r) := by
  unfold legsOf legsTruncated
  split
  · next hlong =>
    have hi : i < 23 := by
      have := of_decide_eq_true hlong
      omega
    have hlength : (((legRuns p).take 23).map (legOfRun m)).length = 23 := by
      have := of_decide_eq_true hlong
      simp; omega
    rw [List.getElem?_append_left (by omega), List.getElem?_map, List.getElem?_take_of_lt hi, hr]
    rfl
  · rw [List.getElem?_map, hr]
    rfl

theorem legs_count_sum (m : MapStore) (runs : List (List Hop)) :
    ((runs.map (legOfRun m)).map Leg.count).sum = runs.flatten.length := by
  rw [List.map_map, List.length_flatten]
  rfl

/-- Settles O34. -/
theorem legsCoverThePath : Obligations.LegsCoverThePath := by
  intro m p
  obtain ⟨hflat, hruns, hcut⟩ := legRuns_spec p
  have hsplit : ((legRuns p).take 23).flatten ++ ((legRuns p).drop 23).flatten = p := by
    rw [← List.flatten_append, List.take_append_drop, hflat]
  refine ⟨legRuns p, hflat, hruns, fun i r q hr hq => ?cut, ?length, fun i r hr hshort => ?leg, fun hlong => ?continued,
    ?count⟩
  case cut =>
    obtain ⟨hi, rfl⟩ := List.getElem?_eq_some_iff.mp hr
    obtain ⟨hi', rfl⟩ := List.getElem?_eq_some_iff.mp hq
    exact List.isChain_iff_getElem.mp hcut i hi'
  case length =>
    unfold legsOf legsTruncated
    split
    · next hlong =>
      have := of_decide_eq_true hlong
      simp; omega
    · next hshort =>
      have := of_decide_eq_false (Bool.eq_false_iff.mpr hshort)
      simp; omega
  case leg =>
    have hrun := (hruns r (List.mem_of_getElem? hr)).1
    obtain ⟨h, hh⟩ := exists_head? hrun
    obtain ⟨k, hk⟩ := exists_getLast? hrun
    refine ⟨h, k, legOfRun m r, legsOf_getElem? m p hr hshort, hh, hk, ?_⟩
    rw [legOfRun, legOf_of_last hk, hh]
    exact ⟨rfl, rfl, rfl, rfl, rfl⟩
  case continued =>
    have hrest : ((legRuns p).drop 23).flatten ≠ [] := by
      intro hnil
      have hlast : (legRuns p)[23] ∈ (legRuns p).drop 23 :=
        List.mem_drop_iff_getElem.mpr ⟨0, by omega, rfl⟩
      exact (hruns _ (List.getElem_mem _)).1 (List.flatten_eq_nil_iff.mp hnil _ hlast)
    obtain ⟨k, hk⟩ := exists_getLast? hrest
    have hplast : p.getLast? = some k := by rw [← hsplit, List.getLast?_append, hk]; rfl
    refine ⟨k, legOf m .continued ((legRuns p).drop 23).flatten, ?_, hplast, ?_⟩
    · have hlength : (((legRuns p).take 23).map (legOfRun m)).length = 23 := by simp; omega
      rw [legsOf, legsTruncated, if_pos (decide_eq_true hlong), List.getElem?_append_right (by omega), hlength]
      rfl
    · rw [legOf_of_last hk]
      exact ⟨rfl, rfl, rfl, rfl, rfl⟩
  case count =>
    unfold legsOf
    split
    · rw [List.map_append, List.sum_append, legs_count_sum]
      conv_rhs => rw [← hsplit, List.length_append]
      simp [legOf]
    · rw [legs_count_sum, hflat]

end Sys2Proof.Machine

/-! # Proofs: ROUTE, accepted or refused (R35 to R40) -/

namespace Sys2Proof.Machine

open Sys2Proof.Safety

/-! ## Refusal by the first check that fails -/

/-- One check told twice, the checks behind it told twice where it holds: the first that fails is the same. -/
theorem firstFailing_cons {p : Prop} {b : Bool} {x y : Answer} {rest : List (Prop × Answer)} {rest' : List (Bool × Answer)}
    (hcheck : b = true ↔ p) (hrest : p → FirstFailing rest y → firstFailing rest' = some y)
    (h : FirstFailing ((p, x) :: rest) y) : firstFailing ((b, x) :: rest') = some y := by
  rcases h with ⟨hp, rfl⟩ | ⟨hp, h⟩
  · rw [firstFailing, if_neg (mt hcheck.mp hp)]
  · rw [firstFailing, if_pos (hcheck.mpr hp), hrest hp h]

/-! ## What a ROUTE request names (R35) -/

theorem routeInRange_iff {a : RouteArgs} : routeInRange a = true ↔
    (∀ n ∈ a.screen, n ≤ 47) ∧ (∀ n ∈ a.src, n ≤ 2047) ∧ (∀ n ∈ a.dst, n ≤ 2047) ∧ (∀ n ∈ a.listing, n ≤ 1023)
      ∧ (∀ n ∈ a.category, n ≤ 63) ∧ ∀ n ∈ a.exit, n = 1 := by
  have hone : ∀ n : Nat, 1 ≤ n ∧ n ≤ 1 ↔ n = 1 := fun n => by omega
  simp only [routeInRange, Bool.and_eq_true, optLe_iff, optWithin_iff, and_assoc, hone]

/-- A ROUTE with its origin in range names one exactly where it gives one of SCREEN and FROM. -/
theorem routeOrigin?_isSome {a : RouteArgs} (hscreen : ∀ n ∈ a.screen, n ≤ 47) :
    (routeOrigin? a).isSome = true ↔ a.screen.toList.length + a.src.toList.length = 1 := by
  unfold routeOrigin?
  cases hs : a.screen with
  | none => cases a.src <;> simp
  | some n =>
    have hn : n < 48 := Nat.lt_succ_of_le (hscreen n hs)
    cases a.src <;> simp [toFin?_of_lt hn]

theorem routeDest?_isSome {a : RouteArgs} : (routeDest? a).isSome = true ↔
    a.listing.toList.length + a.dst.toList.length + a.category.toList.length + a.exit.toList.length = 1 := by
  unfold routeDest?
  cases a.listing <;> cases a.dst <;> cases a.category <;> cases a.exit <;> simp

theorem declared_iff {s : State} {k : Nat} :
    s.declared k = true ↔ ∃ n : Fin 48, n.val = k ∧ s.screens[n].isSome = true := by
  unfold State.declared toFin?
  split
  · next h =>
    split at h
    · cases h
    · next hk => exact ⟨nofun, fun ⟨n, hn, _⟩ => absurd (hn ▸ n.isLt) hk⟩
  · next n h =>
    split at h
    · cases h
      exact ⟨fun h => ⟨_, rfl, h⟩, fun ⟨n, hn, h⟩ => by cases hn; exact h⟩
    · cases h

/-- Check 6 of R37: no screen that is named has a DORMANT session. -/
theorem awake_iff {s : State} {a : RouteArgs} (hone : a.screen.toList.length + a.src.toList.length = 1) :
    s.awake (routeOrigin? a) = true ↔
      ∀ (n : Fin 48) (c : Screen), a.screen = some n.val → s.screens[n] = some c → c.session.state ≠ .dormant := by
  unfold routeOrigin?
  cases hs : a.screen with
  | none => cases a.src <;> simp [State.awake]
  | some k =>
    rw [hs] at hone
    cases hsrc : a.src with
    | some n => simp [hsrc] at hone
    | none =>
      by_cases hk : k < 48
      · simp only [toFin?_of_lt hk, Option.map_some, State.awake, optAll_iff, bne_iff_ne, Option.mem_def, Option.some.injEq]
        exact ⟨fun h n c hn hc => by subst hn; exact h c hc, fun h c hc => h ⟨k, hk⟩ c rfl hc⟩
      · simp only [toFin?_of_le (not_lt.mp hk), Option.map_none, State.awake, true_iff, Option.some.injEq]
        exact fun n c hn => absurd (hn ▸ n.isLt) hk

/-- The entries that the capacity check counts (R39). -/
theorem capacityCount_eq {s : State} {a : RouteArgs} (hscreen : ∀ n ∈ a.screen, n ≤ 47)
    (hone : a.screen.toList.length + a.src.toList.length = 1) :
    s.capacityCount (routeOrigin? a) = match a.screen with
      | none => s.queue.entries.length
      | some k => (s.queue.entries.filter fun (e : Entry) =>
          !(e.cls == .normal && e.origin.screen?.map Fin.val == some k)).length := by
  unfold routeOrigin?
  cases hs : a.screen with
  | none => cases a.src <;> rfl
  | some k =>
    rw [hs] at hone
    have hk : k < 48 := Nat.lt_succ_of_le (hscreen k hs)
    cases hsrc : a.src with
    | some n => simp [hsrc] at hone
    | none =>
      have hsame : ∀ e : Entry, Entry.ofScreen .normal ⟨k, hk⟩ e
          = (e.cls == .normal && e.origin.screen?.map Fin.val == some k) := fun e => by
        cases hn : e.origin.screen? with
        | none => simp [Entry.ofScreen, hn]
        | some m => simp [Entry.ofScreen, hn, beq_eq_decide, Fin.ext_iff]
      simp only [toFin?_of_lt hk, Option.map_some, State.capacityCount, hsame]

/-! ## Acceptance (R40) -/

theorem countDemand_get (s : State) (d : Dest) (j : Nat) : (s.countDemand d).map.listings.get j =
    if d = .listing j then (s.map.listings.get j).map fun l => { l with demand := min 65535 (l.demand + 1) }
    else s.map.listings.get j := by
  unfold State.countDemand
  cases d with
  | listing l =>
    simp only [Dest.listing.injEq]
    cases hl : s.map.listings.get l with
    | none =>
      show s.map.listings.get j = _
      split
      · next hj => rw [← hj, hl, Option.map_none]
      · rfl
    | some r =>
      show (s.map.listings.put l r.countDemand).get j = _
      simp only [Table.get_put, eq_comm (a := j)]
      split
      · next hj =>
        rw [← hj, hl]
        rfl
      · rfl
  | _ => simp

theorem countDemand_map (s : State) (d : Dest) :
    (s.countDemand d).map = { s.map with listings := (s.countDemand d).map.listings }
      ∧ s.countDemand d = s.withMap (s.countDemand d).map := by
  unfold State.countDemand
  split
  · split <;> exact ⟨rfl, rfl⟩
  all_goals exact ⟨rfl, rfl⟩

theorem handId_screens (s : State) (o : Origin) (id : Nat) (n : Fin 48) : (s.handId o id).screens[n] =
    if o = .screen n then (s.screens[n]).map fun c =>
      { c with session := { c.session with state := .routePending, pending := some id, shown := none
                                           idle := some ⟨c.decl.idleTimeout, 0⟩ } }
    else s.screens[n] := by
  cases o with
  | node m => simp [State.handId]
  | screen k =>
    rw [State.handId, modifySession_get]
    simp only [Origin.screen.injEq]
    rfl

theorem handId_frame (s : State) (o : Origin) (id : Nat) : s.handId o id = s.withScreens (s.handId o id).screens := by
  cases o <;> rfl

/-- What acceptance makes of the state between the superseding and the arbiter's act (R40). -/
theorem accepted_form (v : State) (o : Origin) (d : Dest) (p : Profile) :
    ∃ u : State, (((v.countDemand d).accept o d p .normal).handId o v.takeId) = u
      ∧ u.queue = { entries := v.queue.entries ++ [{ id := v.takeId, origin := o, dest := d, profile := p, cls := .normal }]
                    nextId := (v.takeId + 1) % 65536, outstanding := v.queue.outstanding + 1 }
      ∧ u.map = { v.map with listings := u.map.listings }
      ∧ (∀ j, u.map.listings.get j =
          if d = .listing j then (v.map.listings.get j).map fun l => { l with demand := min 65535 (l.demand + 1) }
          else v.map.listings.get j)
      ∧ (∀ n : Fin 48, u.screens[n] =
          if o = .screen n then (v.screens[n]).map fun c =>
            { c with session := { c.session with state := .routePending, pending := some v.takeId, shown := none
                                                 idle := some ⟨c.decl.idleTimeout, 0⟩ } }
          else v.screens[n])
      ∧ u = ((v.withMap u.map).withQueue u.queue).withScreens u.screens := by
  obtain ⟨hmap, hframe⟩ := countDemand_map v d
  have hget := countDemand_get v d
  have hid : (v.countDemand d).takeId = v.takeId := countDemand_takeId v d
  generalize v.countDemand d = w at hmap hframe hget hid
  generalize hm : w.map = m at hmap hframe hget
  subst hframe
  have hhand := handId_frame ((v.withMap m).accept o d p .normal) o v.takeId
  have hscreens := handId_screens ((v.withMap m).accept o d p .normal) o v.takeId
  generalize hsc : (((v.withMap m).accept o d p .normal).handId o v.takeId).screens = sc at hhand hscreens
  refine ⟨_, hhand, ?_, hmap, hget, hscreens, rfl⟩
  simp only [State.accept, hid] <;> rfl

theorem routeProfile_eq (s : State) (given : Option Profile) (o : Origin) : s.routeProfile given o =
    match given, o with
    | some q, _ => q
    | none, .screen n => ((s.screens[n]).map fun c => c.session.profile).getD .standard
    | none, .node _ => .standard := by
  cases given with
  | some p => rfl
  | none =>
    cases o with
    | node n => rfl
    | screen n =>
      show (match s.screens[n] with | none => .standard | some c => c.session.profile)
        = ((s.screens[n]).map fun c => c.session.profile).getD Profile.standard
      cases s.screens[n] <;> rfl

/-- An origin that is in range, named alone, defined and awake meets its checks of R37. -/
theorem origin_checks {s : State} {a : RouteArgs} {o : Origin}
    (ho : match o with
      | .screen n => a.screen = some n.val ∧ a.src = none ∧ ∃ c, s.screens[n] = some c ∧ c.session.state ≠ .dormant
      | .node n => a.screen = none ∧ a.src = some n ∧ n ≤ 2047 ∧ (s.map.nodes.get n).isSome = true) :
    routeOrigin? a = some o ∧ (∀ n ∈ a.screen, n ≤ 47) ∧ (∀ n ∈ a.src, n ≤ 2047) ∧ a.screen.all s.declared = true
      ∧ a.src.all s.nodeDefined = true ∧ s.awake (some o) = true := by
  cases o with
  | screen n =>
    obtain ⟨hs, hsrc, c, hc, hawake⟩ := ho
    have hn : n.val ≤ 47 := Nat.le_of_lt_succ n.isLt
    simp [routeOrigin?, hs, hsrc, toFin?_val, State.declared, State.awake, hc, hawake, hn]
  | node n =>
    obtain ⟨hs, hsrc, hn, hdefined⟩ := ho
    simp [routeOrigin?, hs, hsrc, State.nodeDefined, State.awake, hn, hdefined]

/-- A destination that is in range, named alone and defined meets its checks of R37. -/
theorem dest_checks {s : State} {a : RouteArgs} {d : Dest}
    (hd : match d with
      | .listing l => a.listing = some l ∧ a.dst = none ∧ a.category = none ∧ a.exit = none ∧ l ≤ 1023
          ∧ (s.map.listings.get l).isSome = true
      | .node n => a.listing = none ∧ a.dst = some n ∧ a.category = none ∧ a.exit = none ∧ n ≤ 2047
          ∧ (s.map.nodes.get n).isSome = true
      | .category k => a.listing = none ∧ a.dst = none ∧ a.category = some k ∧ a.exit = none ∧ k ≤ 63
      | .exit => a.listing = none ∧ a.dst = none ∧ a.category = none ∧ a.exit = some 1) :
    routeDest? a = some d ∧ (∀ n ∈ a.dst, n ≤ 2047) ∧ (∀ n ∈ a.listing, n ≤ 1023) ∧ (∀ n ∈ a.category, n ≤ 63)
      ∧ (∀ n ∈ a.exit, n = 1) ∧ a.listing.all s.listingDefined = true ∧ a.dst.all s.nodeDefined = true := by
  cases d with
  | listing l =>
    obtain ⟨hl, hdst, hcat, hexit, hrange, hdefined⟩ := hd
    simp [routeDest?, hl, hdst, hcat, hexit, hrange, State.listingDefined, hdefined]
  | node n =>
    obtain ⟨hl, hdst, hcat, hexit, hrange, hdefined⟩ := hd
    simp [routeDest?, hl, hdst, hcat, hexit, hrange, State.nodeDefined, hdefined]
  | category k =>
    obtain ⟨hl, hdst, hcat, hexit, hrange⟩ := hd
    simp [routeDest?, hl, hdst, hcat, hexit, hrange]
  | exit =>
    obtain ⟨hl, hdst, hcat, hexit⟩ := hd
    simp [routeDest?, hl, hdst, hcat, hexit]

/-- The entries that the capacity check counts, by the origin that a request names (R39). -/
theorem capacityCount_some (s : State) (o : Origin) : s.capacityCount (some o)
    = (s.queue.entries.filter fun e => !(e.cls == .normal && e.origin == o && o.screen?.isSome)).length := by
  cases o with
  | node n => simp [State.capacityCount, Origin.screen?]
  | screen n =>
    have hsame : ∀ e : Entry, Entry.ofScreen .normal n e = (e.cls == .normal && e.origin == .screen n) := fun e => by
      rw [Entry.ofScreen, beq_eq_decide (a := e.origin.screen?), beq_eq_decide (a := e.origin), decide_eq_decide.mpr
        screen?_eq_some]
    simp [State.capacityCount, Origin.screen?, hsame]

/-- Settles O36. -/
theorem routeAcceptedJoinsTheQueue : Obligations.RouteAcceptedJoinsTheQueue := by
  refine ⟨fun s tag a o d hmode hevac ho hd hallowance hroom => ?accepted, fun s tag a y hy => ?refused⟩
  case accepted =>
    obtain ⟨horigin, hscreen, hsrc, hdeclared, hsrcDefined, hawake⟩ := origin_checks ho
    obtain ⟨hdest, hdst, hlisting, hcategory, hexit, hlistingDefined, hdstDefined⟩ := dest_checks hd
    obtain ⟨u, hu, hform⟩ := accepted_form ((s.taken (.route tag a)).supersede o) o d (s.routeProfile a.profile o)
    refine ⟨(s.taken (.route tag a)).supersede o, u, _, s.routeProfile a.profile o, ?_, rfl, routeProfile_eq .., ?_, hform⟩
    · cases o <;> rfl
    · refine exec_of_pass (checks := routeChecks a s) rfl rfl ?_ ?_
      · have hservice : s.inService = true := beq_iff_eq.mpr hmode
        have hactive : s.evacActive = false := beq_eq_false_iff_ne.mpr hevac
        have hrange := routeInRange_iff.mpr ⟨hscreen, hsrc, hdst, hlisting, hcategory, hexit⟩
        have hcapacity : s.capacityCount (some o) < 16 := by rwa [capacityCount_some]
        simp [routeChecks, existenceChecks, inRange, agrees, hservice, hactive, hrange, horigin, hdest, hdeclared,
          hsrcDefined, hlistingDefined, hdstDefined, hawake, hallowance, hcapacity]
      · simp only [horigin, hdest]
        rw [← hu]
        cases o with
        | node n => rfl
        | screen n =>
          have hold : (s.taken (.route tag a)).screenEntry? n = s.screenEntry? n := rfl
          simp only [acceptRoute, State.superseded?, hold]
          cases s.screenEntry? n <;> rfl
  case refused =>
    refine exec_of_fail (checks := routeChecks a s) rfl rfl ?_
    refine firstFailing_cons beq_iff_eq (fun _ => ?_) hy
    refine firstFailing_cons (by simp [State.evacActive]) fun _ => ?_
    refine firstFailing_cons routeInRange_iff fun hrange => ?_
    have hscreen := hrange.1
    refine firstFailing_cons (by rw [Bool.and_eq_true, routeOrigin?_isSome hscreen, routeDest?_isSome]) fun ⟨hone, _⟩ => ?_
    refine firstFailing_cons (by simp only [optAll_iff, declared_iff]) fun _ => ?_
    refine firstFailing_cons optAll_iff fun _ => ?_
    refine firstFailing_cons optAll_iff fun _ => ?_
    refine firstFailing_cons optAll_iff fun _ => ?_
    refine firstFailing_cons (awake_iff hone) fun _ => ?_
    refine firstFailing_cons decide_eq_true_iff fun _ => ?_
    exact firstFailing_cons (by simp only [decide_eq_true_iff, capacityCount_eq hscreen hone] <;> rfl) fun _ => False.elim

end Sys2Proof.Machine

/-! # Proofs: a NORMAL entry that is ended (R44 to R47, R49) -/

namespace Sys2Proof.Machine

open Sys2Proof.Safety

/-! ## The sessions that take the outcomes of entries -/

/-- What the outcome of one entry makes of the screens: the session of its screen takes it. -/
def handScreens (o : RouteOutcome) (v : Vector (Option Screen) 48) (e : Entry) : Vector (Option Screen) 48 :=
  match e.origin.screen? with
  | none => v
  | some n => modifyAt v n fun x => x.map fun c =>
    { c with session := match e.cls with
        | .normal => c.session.takeOutcome e.id o c.decl
        | .evacuation => c.session.takeEvacResult e.id o c.decl }

theorem handOutcome_handScreens (s : State) {e : Entry} {r : RouteResult} (hr : ResultOf e r) :
    (s.handOutcome r).screens = handScreens r.outcome s.screens e := by
  unfold State.handOutcome handScreens
  rw [hr.screen, hr.id, hr.cls]
  cases e.origin.screen? with
  | none => rfl
  | some n =>
    cases e.cls with
    | normal => rfl
    | evacuation =>
      dsimp only
      split <;> rfl

theorem postFromQueue_screens (s : State) (o : RouteOutcome) (e : Entry) :
    (s.postFromQueue o e).screens = handScreens o s.screens e :=
  handOutcome_handScreens (s.post (.routeResult (emptyResult s e o []))) (resultOf_empty s e o [])

theorem abortUnit_screens (s : State) (u : UnitName) (test : Entry → Bool) (o : RouteOutcome) :
    (s.abortUnit u test o).screens
      = (((s.units.get u).toList.map Attempt.entry).filter test).foldl (handScreens o) s.screens := by
  unfold State.abortUnit
  split
  · next h =>
    rw [h]
    rfl
  · next a h =>
    rw [h]
    split
    · next ht =>
      have hlist : ((some a).toList.map Attempt.entry).filter test = [a.entry] := by simp [ht]
      rw [hlist]
      unfold State.postFromUnit
      dsimp only
      rw [State.withUnits_screens, handOutcome_handScreens _ (resultOf_empty s a.entry o []), countFailure_screens]
      rfl
    · next ht =>
      have hlist : ((some a).toList.map Attempt.entry).filter test = [] := by simp [ht]
      rw [hlist]
      rfl

/-- The screens after some entries are ended: their sessions take the outcomes in turn. -/
theorem endEntries_handScreens (s : State) (test : Entry → Bool) (o : RouteOutcome) :
    (s.endEntries test o).screens = (s.allEntries.filter test).foldl (handScreens o) s.screens := by
  have hfold : ∀ (l : List Entry) (x : State),
      (l.foldl (fun s e => s.postFromQueue o e) x).screens = l.foldl (handScreens o) x.screens := by
    intro l
    induction l with
    | nil => exact fun x => rfl
    | cons e l ih =>
      intro x
      rw [List.foldl_cons, ih, postFromQueue_screens, List.foldl_cons]
  have hqueued : (s.endQueued test o).screens = (s.queue.entries.filter test).foldl (handScreens o) s.screens := hfold _ _
  obtain ⟨_, hunits, _⟩ := OutcomesKept.foldl_postFromQueue o (s.queue.entries.filter test)
    (s.withQueue { s.queue with entries := s.queue.entries.filter fun e => !test e })
  have hunits : (s.endQueued test o).units = s.units := hunits
  have hall : s.allEntries.filter test = s.queue.entries.filter test
      ++ (((s.units.get .a).toList.map Attempt.entry).filter test
        ++ ((s.units.get .b).toList.map Attempt.entry).filter test) := by
    rw [State.allEntries, List.filter_append, Units.entries, List.map_append, List.filter_append]
    rfl
  rw [State.endEntries, abortUnit_screens, abortUnit_screens, abortUnit_units, hunits, hqueued, hall, List.foldl_append,
    List.foldl_append]
  rfl

/-! ## One entry that is ended -/

/-- One entry alone is ended: it leaves its place, its result is posted, and its session takes the outcome. -/
theorem endEntries_one {o : RouteOutcome} (ho : o.isAbort = true) {s : State} {test : Entry → Bool} {e : Entry}
    (h : s.allEntries.filter test = [e]) :
    s.endEntries test o = (((s.withQueue { s.queue with entries := s.queue.entries.filter fun e => !test e }).withUnits
        (s.units.without test)).withScreens (handScreens o s.screens e)).withPort
        (s.port.post (.routeResult (emptyResult s e o []))) := by
  obtain ⟨v, heq, -⟩ := endEntries_form ho s test
  have hscreens : v = handScreens o s.screens e := by
    have := endEntries_handScreens s test o
    rw [h, heq] at this
    exact this
  rw [heq, h, hscreens]
  rfl

/-- Outcomes that end no pending leave the screens (R45, R49). -/
theorem handScreens_of_leaves {o : RouteOutcome} (h : o.endsPending = false) (v : Vector (Option Screen) 48) (e : Entry) :
    handScreens o v e = v := by
  refine Vector.ext fun i hi => ?_
  unfold handScreens
  split
  · rfl
  · next n _ =>
    show (modifyAt v n _)[(⟨i, hi⟩ : Fin 48)] = v[(⟨i, hi⟩ : Fin 48)]
    rw [modifyAt_get]
    split
    · cases v[(⟨i, hi⟩ : Fin 48)] with
      | none => rfl
      | some c =>
        cases e.cls <;> simp only [Option.map_some, takeOutcome_of_leaves h, takeEvacResult_of_leaves h]
    · rfl

/-- A CANCELLED of a NORMAL entry, at each screen (R136). -/
theorem handScreens_cancelled {v : Vector (Option Screen) 48} {e : Entry} (he : e.cls = .normal) (n : Fin 48) :
    (handScreens .cancelled v e)[n] = (v[n]).map fun c =>
      if e.origin = .screen n ∧ c.session.state = .routePending ∧ c.session.pending = some e.id then
        { c with session := { c.session with state := .active, pending := none, idle := some ⟨c.decl.idleTimeout, 0⟩ } }
      else c := by
  unfold handScreens
  rw [he]
  cases ho : e.origin with
  | node m => simp [Origin.screen?]
  | screen k =>
    simp only [Origin.screen?, modifyAt_get, Origin.screen.injEq]
    cases v[n] with
    | none => simp
    | some c =>
      by_cases hk : k = n
      · simp only [hk, if_true, Option.map_some, Session.takeOutcome, true_and]
        split <;> rfl
      · simp [hk]

/-! ## The entry that an id names (R41, R47) -/

theorem allIds_nodup {s : State} (hs : IdsDistinct s) : (s.allEntries.map Entry.id).Nodup := by
  rw [State.allEntries, List.map_append]
  exact (List.nodup_append.mp hs.1).1

theorem eq_of_id {s : State} (hs : IdsDistinct s) {x e : Entry} (hx : x ∈ s.allEntries) (he : e ∈ s.allEntries)
    (h : x.id = e.id) : x = e :=
  List.inj_on_of_nodup_map (allIds_nodup hs) hx he h

theorem filter_id {s : State} (hs : IdsDistinct s) {e : Entry} (he : e ∈ s.allEntries) :
    s.allEntries.filter (fun x => x.id == e.id) = [e] := by
  have hnodup : s.allEntries.Nodup := (allIds_nodup hs).of_map
  have hsame : s.allEntries.filter (fun x => x.id == e.id) = s.allEntries.filter (fun x => x = e) :=
    List.filter_congr fun x hx => by
      rw [beq_eq_decide, decide_eq_decide]
      exact ⟨eq_of_id hs hx he, congrArg Entry.id⟩
  rw [hsame, List.filter_eq, List.count_eq_one_of_mem hnodup he]
  rfl

/-- An entry in the queue shares its id with none in a unit. -/
theorem id_ne_of_queued {s : State} (hs : IdsDistinct s) {x e : Entry} (hx : x ∈ s.queue.entries)
    (he : e ∈ s.units.entries) : x.id ≠ e.id := by
  have hnodup := allIds_nodup hs
  rw [State.allEntries, List.map_append, List.nodup_append] at hnodup
  exact hnodup.2.2 _ (List.mem_map_of_mem hx) _ (List.mem_map_of_mem he)

theorem findEntry_none {s : State} {id : Nat} (h : ∀ e ∈ s.allEntries, e.id ≠ id) : s.findEntry id = none := by
  have hqueue : s.queue.entries.find? (fun e => e.id == id) = none :=
    List.find?_eq_none.mpr fun e he => by simpa using h e (List.mem_append_left _ he)
  have hunit : ∀ u a, s.units.get u = some a → ¬ (a.entry.id == id) = true := fun u a ha => by
    simpa using h a.entry (List.mem_append_right _ (RouteMoves.mem_entries_of_get ha))
  have ha : s.units.a.filter (fun a => a.entry.id == id) = none :=
    Option.filter_eq_none_iff.mpr fun a ha => hunit .a a ha
  have hb : s.units.b.filter (fun a => a.entry.id == id) = none :=
    Option.filter_eq_none_iff.mpr fun b hb => hunit .b b hb
  rw [State.findEntry, hqueue, ha, hb]

/-- Where the entry of an id stands, and the word of WAS (R47). -/
theorem findEntry_of_mem {s : State} (hs : IdsDistinct s) {e : Entry} (he : e ∈ s.allEntries) :
    ∃ place, s.findEntry e.id = some (e, place)
      ∧ placeWord place = if e ∈ s.queue.entries then .queued
          else if ∃ a, s.units.a = some a ∧ a.entry = e then .a else .b := by
  by_cases hq : e ∈ s.queue.entries
  · refine ⟨.queued, ?_, by rw [if_pos hq]; rfl⟩
    obtain ⟨x, hx⟩ := Option.isSome_iff_exists.mp (List.find?_isSome (p := fun x => x.id == e.id).mpr ⟨e, hq, beq_self_eq_true e.id⟩)
    have hxe : x = e := eq_of_id hs (List.mem_append_left _ (List.mem_of_find?_eq_some hx)) he
      (by simpa using List.find?_some hx)
    rw [State.findEntry, hx, hxe]
  · have hu : e ∈ s.units.entries := (List.mem_append.mp he).resolve_left hq
    have hqueue : s.queue.entries.find? (fun x => x.id == e.id) = none :=
      List.find?_eq_none.mpr fun x hx => by simpa using id_ne_of_queued hs hx hu
    have hsame : ∀ u a, s.units.get u = some a → a.entry.id = e.id → a.entry = e := fun u a ha =>
      eq_of_id hs (List.mem_append_right _ (RouteMoves.mem_entries_of_get ha)) he
    rw [State.findEntry, hqueue, if_neg hq]
    cases ha : s.units.a.filter fun a => a.entry.id == e.id with
    | some a =>
      obtain ⟨hget, hid⟩ := Option.filter_eq_some_iff.mp ha
      have hae : a.entry = e := hsame .a a hget (beq_iff_eq.mp hid)
      exact ⟨.unit .a, by simp only [hae], by rw [if_pos ⟨a, hget, hae⟩]; rfl⟩
    | none =>
      have hnot : ¬ ∃ a, s.units.a = some a ∧ a.entry = e := by
        rintro ⟨a, hget, rfl⟩
        exact Option.filter_eq_none_iff.mp ha a hget (beq_self_eq_true _)
      obtain ⟨b, hget⟩ : ∃ b, s.units.b = some b ∧ b.entry = e := by
        simp only [Units.entries, List.map_append, List.mem_append, List.mem_map, Option.mem_toList] at hu
        exact hu.resolve_left hnot
      have hb : s.units.b.filter (fun a => a.entry.id == e.id) = some b :=
        Option.filter_eq_some_iff.mpr ⟨hget.1, by simp [hget.2]⟩
      rw [hb, if_neg hnot]
      exact ⟨.unit .b, by simp only [hget.2], rfl⟩

/-- What is left when the one entry of a test is taken out is what is left when the entry of its id is. -/
theorem without_eq {s : State} (hs : IdsDistinct s) {test : Entry → Bool} {e : Entry}
    (h : s.allEntries.filter test = [e]) :
    (s.queue.entries.filter fun x => !test x) = (s.queue.entries.filter fun x => !(x.id == e.id))
      ∧ s.units.without test = { a := s.units.a.filter fun a => !(a.entry.id == e.id)
                                 b := s.units.b.filter fun a => !(a.entry.id == e.id) } := by
  have he : e ∈ s.allEntries := List.mem_of_mem_filter (h ▸ List.mem_singleton_self e)
  have hsame : ∀ x ∈ s.allEntries, test x = (x.id == e.id) := by
    intro x hx
    have hmem : x ∈ s.allEntries.filter test ↔ x = e := by rw [h, List.mem_singleton]
    rw [Bool.eq_iff_iff, beq_iff_eq]
    exact ⟨fun ht => congrArg Entry.id (hmem.mp (List.mem_filter.mpr ⟨hx, ht⟩)),
      fun hid => (List.mem_filter.mp (hmem.mpr (eq_of_id hs hx he hid))).2⟩
  refine ⟨List.filter_congr fun x hx => congrArg _ (hsame x (List.mem_append_left _ hx)), ?_⟩
  have hunit : ∀ u a, s.units.get u = some a → (!test a.entry) = !(a.entry.id == e.id) := fun u a ha =>
    congrArg _ (hsame a.entry (List.mem_append_right _ (RouteMoves.mem_entries_of_get ha)))
  unfold Units.without
  refine congrArg₂ Units.mk ?_ ?_
  · cases ha : s.units.a with
    | none => rfl
    | some a => simp only [Option.filter, hunit .a a ha]
  · cases hb : s.units.b with
    | none => rfl
    | some b => simp only [Option.filter, hunit .b b hb]

/-- Settles O37. -/
theorem entryEndedPostsItsOutcome : Obligations.EntryEndedPostsItsOutcome := by
  refine ⟨fun s e o flags => ?result, fun s e u hs hcls he hqueue hunits hu => ?ended, fun s tag id => ?refused⟩
  case result => cases ho : e.origin <;> simp only [emptyResult, ho, Origin.screen?]
  case ended =>
    have he : e ∈ s.allEntries := List.mem_append.mpr he
    rw [hqueue, hunits] at hu
    subst hu
    refine ⟨fun tag hid => ?_, fun n o hone ho => ?_⟩
    · obtain ⟨place, hfind, hword⟩ := findEntry_of_mem hs he
      have hfind' : (s.taken (.routeCancel tag e.id)).findEntry e.id = some (e, place) := hfind
      refine ⟨(s.taken (.routeCancel tag e.id)).endEntries (fun x => x.id == e.id) .cancelled,
        exec_of_pass rfl rfl (by simp [inRange, hid]) ?_, fun n => ?_, ?_⟩
      · simp only [hfind', hcls, hword]
      · rw [endEntries_handScreens, show (s.taken (.routeCancel tag e.id)).allEntries = s.allEntries from rfl, filter_id hs he]
        exact handScreens_cancelled hcls n
      · rw [endEntries_one (s := s.taken (.routeCancel tag e.id)) rfl (filter_id hs he)]
        rfl
    · obtain ⟨hq, hun⟩ := without_eq hs (test := Entry.ofScreen .normal n) hone
      have habort : o.isAbort = true ∧ o.endsPending = false := by
        rcases ho with rfl | rfl <;> exact ⟨rfl, rfl⟩
      have hpresent : (s.screenEntry? n).isSome = true := by
        have hmem : e ∈ (s.queue.entries ++ s.units.entries).filter (Entry.ofScreen .normal n) :=
          Eq.subst (motive := (e ∈ ·)) hone.symm (List.mem_singleton_self e)
        rw [State.screenEntry?, Option.isSome_map, List.find?_isSome]
        exact ⟨e, List.mem_filter.mp hmem⟩
      rw [State.endScreenEntry, if_pos hpresent, endEntries_one habort.1 hone, handScreens_of_leaves habort.2, hq, hun]
      rfl
  case refused =>
    refine ⟨fun hid => exec_of_fail rfl rfl (by simp [firstFailing, inRange, Nat.not_le.mpr hid]), fun hid hno => ?_,
      fun e he hs hid hcls => ?_⟩
    · have hfind : (s.taken (.routeCancel tag id)).findEntry id = none := findEntry_none (s := s) hno
      refine exec_of_pass rfl rfl (by simp [inRange, hid]) ?_
      simp only [hfind]
    · subst hid
      obtain ⟨place, hfind, -⟩ := findEntry_of_mem hs he
      have hfind' : (s.taken (.routeCancel tag e.id)).findEntry e.id = some (e, place) := hfind
      have hsmall : e.id ≤ 65535 := by
        have := hs.2.1 e.id (by
          rw [State.outstandingIds, ← List.map_append]
          exact List.mem_append_left _ (List.mem_map_of_mem he))
        omega
      refine exec_of_pass rfl rfl (by simp [inRange, hsmall]) ?_
      simp only [hfind', hcls]

end Sys2Proof.Machine

/-! # Proofs: the arbiter and the sweep, act by act (R43, R50, R148) -/

namespace Sys2Proof.Machine

open Sys2Proof.Safety

/-- Acts are counted down by the measure, so that no more of them come of more fuel. -/
theorem settleLoop_enough {n k : Nat} {s : State} (hn : s.settleMeasure < n) (hk : s.settleMeasure < k) :
    State.settleLoop n s = State.settleLoop k s := by
  induction n generalizing s k with
  | zero => exact absurd hn (Nat.not_lt_zero _)
  | succ n ih =>
    cases k with
    | zero => exact absurd hk (Nat.not_lt_zero _)
    | succ k =>
      unfold State.settleLoop
      cases h : s.settleStep with
      | none => rfl
      | some t =>
        have := settleStep_measure h
        exact ih (by omega) (by omega)

/-- One act, and then the others. -/
theorem settle_of_step {s t : State} (h : s.settleStep = some t) : s.settle = t.settle := by
  have hless := settleStep_measure h
  have hfuel : s.settle = State.settleLoop s.settleMeasure t := by
    show State.settleLoop (s.settleMeasure + 1) s = _
    rw [State.settleLoop, h]
  rw [hfuel]
  exact settleLoop_enough hless (Nat.lt_succ_self _)

theorem sweepable_iff {s : State} {n : Fin 48} : s.sweepable n = true ↔
    (s.screens[n]).isSome = true ∧ s.evac.due[n] = true ∧ entriesOf s .evacuation n = [] := by
  simp only [State.sweepable, State.evacEntryQueued, State.evacEntryInUnit, entriesOf, List.filter_eq_nil_iff,
    Bool.and_eq_true, Bool.not_eq_true', List.any_eq_false, List.mem_append, or_imp, forall_and, and_assoc]

/-- The arbiter has no act: the queue is empty, or both units are BUSY. -/
theorem settleStep_of_blocked {s : State}
    (h : s.queue.entries = [] ∨ s.units.a.isSome = true ∧ s.units.b.isSome = true) :
    s.settleStep = (s.sweepNext).map s.sweepOne := by
  have hsweep : s.settleStep = match s.sweepNext with
      | some n => some (s.sweepOne n)
      | none => none := by
    unfold State.settleStep
    rcases h with h | ⟨ha, hb⟩
    · rw [h] <;> rfl
    · obtain ⟨a, ha⟩ := Option.isSome_iff_exists.mp ha
      obtain ⟨b, hb⟩ := Option.isSome_iff_exists.mp hb
      rw [State.freeUnit, ha, hb]
      cases s.queue.entries <;> rfl
  rw [hsweep]
  cases s.sweepNext <;> rfl

theorem settleStep_of_free {s : State} {e : Entry} {rest : List Entry} {u : UnitName} (hq : s.queue.entries = e :: rest)
    (hu : s.freeUnit = some u) :
    s.settleStep = some ((s.withQueue { s.queue with entries := rest }).startAttempt u e 1) := by
  have hgrant : s.grant u = (s.withQueue { s.queue with entries := rest }).startAttempt u e 1 := by
    rw [State.grant, hq]
  rw [← hgrant, State.settleStep, hq, hu]

/-- Settles O38. -/
theorem arbiterAndSweepActInTurn : Obligations.ArbiterAndSweepActInTurn := by
  refine fun s => ⟨fun e rest hq => ⟨fun ha => ?_, fun ha hb => ?_⟩, fun hblocked => ⟨fun n hactive hroom hallow hn hdue hno
    hleast => ?_, fun hidle => ?_⟩⟩
  · exact settle_of_step (settleStep_of_free hq (by rw [State.freeUnit, ha]))
  · obtain ⟨a, ha⟩ := Option.isSome_iff_exists.mp ha
    exact settle_of_step (settleStep_of_free hq (by rw [State.freeUnit, ha, hb]))
  · have hnext : s.sweepNext = some n := by
      have hcan : (s.evacActive && decide (s.queue.entries.length < 16) && decide (s.queue.outstanding < 24)) = true := by
        simp [State.evacActive, hactive, hroom, hallow]
      rw [State.sweepNext, if_pos hcan]
      refine List.find?_eq_some_iff_getElem.mpr ⟨sweepable_iff.mpr ⟨Option.isSome_iff_exists.mpr hn, hdue, hno⟩, n.val,
        by simp, by simp, fun j hj => ?_⟩
      have hlower := hleast ⟨j, hj.trans n.isLt⟩ hj
      rw [← sweepable_iff, Bool.not_eq_true] at hlower
      simpa using hlower
    exact settle_of_step (by rw [settleStep_of_blocked hblocked, hnext]; rfl)
  · have hnext : s.sweepNext = none := by
      rw [State.sweepNext]
      split
      · next hcan =>
        simp only [State.evacActive, Bool.and_eq_true, beq_iff_eq, decide_eq_true_eq] at hcan
        obtain ⟨⟨hactive, hroom⟩, hallow⟩ := hcan
        refine List.find?_eq_none.mpr fun n _ => ?_
        rw [sweepable_iff]
        rcases hidle with h | h | h | h
        · exact absurd hactive h
        · omega
        · omega
        · exact h n
      · rfl
    exact settle_of_quiet ((settleStep_of_blocked hblocked).trans (by rw [hnext]; rfl))

end Sys2Proof.Machine

/-! # Proofs: the start event (R55 to R59) -/

namespace Sys2Proof.Machine

open Sys2Proof.Safety

/-! ## Destination sets (R56, R57) -/

theorem formSet_append (ts : List Target) (t : Target) : formSet (ts ++ [t]) =
    if 64 ≤ (formSet ts).length ∨ ∃ y ∈ formSet ts, y.node = t.node then formSet ts else formSet ts ++ [t] := by
  rw [formSet, List.foldl_append]
  show takeTarget (formSet ts) t = _
  simp only [takeTarget, List.any_eq_true, beq_iff_eq]

/-- The doors of a listing as the destination sets hold them. -/
def Listing.targets (s : State) (l : Nat) (r : Listing) : List Target :=
  r.doors.map fun d => { node := d, listing := some l, unknown := decide (s.effective r = .unknown), excepted := false }

theorem doorTargets_eq {s : State} {r : Listing} (l : Nat) {b : Bool} (h : b = decide (s.effective r = .unknown)) :
    doorTargets l b r.doors = r.targets s l := by
  rw [h]
  rfl

/-- A LISTING destination by the listing's effective state (R56). -/
theorem resolveListing_of_get {s : State} {l : Nat} {r : Listing} (hr : s.map.listings.get l = some r) :
    (s.effective r = .opened → resolveListing s l = .targets (formSet (r.targets s l)) {})
      ∧ (s.effective r = .unknown → resolveListing s l = .targets (formSet (r.targets s l)) { hoursUnknown := true })
      ∧ (s.effective r = .closed → resolveListing s l = .targets (formSet (r.targets s l)) { destClosed := true })
      ∧ (s.effective r = .vacant → resolveListing s l = .failed .noDestination)
      ∧ ∀ m q, s.effective r = .moved m → s.map.listings.get m = some q →
        (s.effective q = .opened → resolveListing s l = .targets (formSet (q.targets s m)) { moved := true })
        ∧ (s.effective q = .unknown →
            resolveListing s l = .targets (formSet (q.targets s m)) { moved := true, hoursUnknown := true })
        ∧ (s.effective q = .closed →
            resolveListing s l = .targets (formSet (q.targets s m)) { moved := true, destClosed := true })
        ∧ (s.effective q = .vacant ∨ (∃ k, s.effective q = .moved k) → resolveListing s l = .failed .unresolvedMove) := by
  have hdoors : ∀ (l : Nat) (r : Listing) (b : Bool) (e : EffState), s.effective r = e → b = decide (e = .unknown) →
      doorTargets l b r.doors = r.targets s l := fun l r b e he hb => doorTargets_eq l (he ▸ hb)
  unfold resolveListing
  rw [hr]
  refine ⟨fun h => ?_, fun h => ?_, fun h => ?_, fun h => ?_, fun m q hm hq => ⟨fun h => ?_, fun h => ?_, fun h => ?_,
    fun h => ?_⟩⟩
  · simp only [h, hdoors l r false _ h rfl]
  · simp only [h, hdoors l r true _ h rfl]
  · simp only [h, hdoors l r false _ h rfl]
  · simp only [h]
  · simp only [hm, hq, h, hdoors m q false _ h rfl]
  · simp only [hm, hq, h, hdoors m q true _ h rfl]
  · simp only [hm, hq, h, hdoors m q false _ h rfl]
  · rcases h with h | ⟨k, h⟩ <;> simp only [hm, hq, h]

/-- A CATEGORY destination: the OPEN and UNKNOWN listings, failing those the CLOSED ones (R57). -/
theorem resolveCategory_eq (s : State) (k : Nat) : resolveCategory s k =
    match s.map.listings.filter (fun q =>
        decide (q.2.category = k ∧ (s.effective q.2 = .opened ∨ s.effective q.2 = .unknown))) with
    | x :: xs => .targets (formSet ((x :: xs).flatMap fun q => q.2.targets s q.1)) {}
    | [] =>
      match s.map.listings.filter (fun q => decide (q.2.category = k ∧ s.effective q.2 = .closed)) with
      | x :: xs => .targets (formSet ((x :: xs).flatMap fun q => q.2.targets s q.1)) { destClosed := true }
      | [] => .failed .noDestination := by
  have hfirst : (categoryListings s k fun e => e == .opened || e == .unknown)
      = s.map.listings.filter (fun q =>
        decide (q.2.category = k ∧ (s.effective q.2 = .opened ∨ s.effective q.2 = .unknown))) := by
    simp only [categoryListings, beq_eq_decide, Bool.decide_and, Bool.decide_or]
  have hsecond : (categoryListings s k fun e => e == .closed)
      = s.map.listings.filter (fun q => decide (q.2.category = k ∧ s.effective q.2 = .closed)) := by
    simp only [categoryListings, beq_eq_decide, Bool.decide_and]
  have hdoors : ∀ ls : List (Nat × Listing), doorsOfAll s ls = ls.flatMap fun q => q.2.targets s q.1 := fun ls => by
    unfold doorsOfAll
    refine List.flatMap_congr fun q _ => doorTargets_eq q.1 (beq_eq_decide ..)
  rw [resolveCategory, hfirst, hsecond]
  simp only [hdoors] <;> rfl

/-- The EXIT nodes that a route may go to (R59). -/
theorem exitTargets_eq (s : State) (zone : Option (Fin 32)) : exitTargets s zone =
    (s.map.nodes.filterMap fun q =>
      match q.2.kind, q.2.zone with
      | .exit, none => some { node := q.1, listing := none, unknown := false, excepted := false }
      | .exit, some z =>
        if s.census.zones[z].closed = false then
          some { node := q.1, listing := none, unknown := false, excepted := false }
        else if zone = some z then some { node := q.1, listing := none, unknown := false, excepted := true }
        else none
      | _, _ => none).take 64 := by
  rw [exitTargets]
  refine congrArg (List.take 64) (List.filterMap_congr fun q _ => ?_)
  unfold Node.zoneClosed
  cases q.2.kind with
  | exit =>
    cases q.2.zone with
    | none => rfl
    | some z =>
      simp only [State.zone]
      have hzone : (some z == zone) = decide (zone = some z) := by rw [beq_eq_decide, decide_eq_decide, eq_comm]
      by_cases hc : s.census.zones[z].closed = true
      · simp only [hc, hzone]
        simp
      · simp only [Bool.eq_false_iff.mpr hc]
        simp
  | _ => rfl

theorem resolveExit_eq (s : State) (zone : Option (Fin 32)) :
    (exitTargets s zone ≠ [] → resolveExit s zone = .targets (exitTargets s zone) {})
      ∧ (exitTargets s zone = [] → resolveExit s zone = .failed .noExit) := by
  unfold resolveExit
  cases exitTargets s zone with
  | nil => exact ⟨fun h => absurd rfl h, fun _ => rfl⟩
  | cons t ts => exact ⟨fun _ => rfl, fun h => absurd h (List.cons_ne_nil t ts)⟩

/-! ## Completion at once (R55, R63) -/

theorem Attempt.immediate_iff (x : Attempt) : x.immediate = true ↔ (∃ o, x.resolution = .failed o)
    ∨ ∃ set f k t, x.resolution = .targets set f ∧ x.origin = some k ∧ t ∈ set ∧ t.node = k := by
  unfold Attempt.immediate
  cases x.resolution with
  | failed o => simp
  | targets set f =>
    cases x.origin with
    | none => simp
    | some k =>
      simp only [List.any_eq_true, beq_iff_eq, reduceCtorEq, exists_false, false_or]
      exact ⟨fun ⟨t, ht, hk⟩ => ⟨set, f, k, t, rfl, rfl, ht, hk⟩, fun ⟨_, _, _, t, hset, hk, ht, hnode⟩ => by
        cases hset
        cases hk
        exact ⟨t, ht, hnode⟩⟩

/-- Settles O39. -/
theorem startEventTakesTheMapAsItStands : Obligations.StartEventTakesTheMapAsItStands := by
  refine ⟨⟨rfl, formSet_append⟩, fun s u e n doors hdoors => ⟨beginAttempt s e n, originZoneOf s (originNode s e.origin), rfl,
    rfl, fun k hk => ?screen, fun k hk => ?node, fun l r hl hr => ?listing, fun k hk => ?toNode,
    fun k first second hk hfirst hsecond => ?category, fun exits hexit hexits => ?exit, Attempt.immediate_iff _, ?searching,
    ?atOnce⟩⟩
  case screen =>
    show originNode s e.origin = _
    rw [hk]
    rfl
  case node =>
    show originNode s e.origin = _
    rw [hk]
    rfl
  case listing =>
    subst hdoors
    have hx : (beginAttempt s e n).resolution = resolveListing s l := by
      show resolve s e.dest _ = _
      rw [hl]
      rfl
    rw [hx]
    exact resolveListing_of_get hr
  case toNode =>
    show resolve s e.dest _ = _
    rw [hk]
    rfl
  case category =>
    subst hdoors
    have hx : (beginAttempt s e n).resolution = resolveCategory s k := by
      show resolve s e.dest _ = _
      rw [hk]
      rfl
    rw [hx, resolveCategory_eq, ← hfirst, ← hsecond]
    cases first with
    | cons x xs => exact ⟨fun _ => rfl, nofun, nofun⟩
    | nil =>
      cases second with
      | cons x xs => exact ⟨fun h => absurd rfl h, fun _ _ => rfl, nofun⟩
      | nil => exact ⟨fun h => absurd rfl h, fun _ h => absurd rfl h, fun _ _ => rfl⟩
  case exit =>
    have hx : (beginAttempt s e n).resolution = resolveExit s (originZoneOf s (originNode s e.origin)) := by
      show resolve s e.dest _ = _
      rw [hexit]
      rfl
    have hset : exits = exitTargets s (originZoneOf s (originNode s e.origin)) := hexits.trans (exitTargets_eq ..).symm
    rw [hx, hset]
    exact resolveExit_eq s _
  case searching =>
    intro h
    rw [State.startAttempt, h]
    rfl
  case atOnce =>
    intro h
    have hstart : s.startAttempt u e n = (s.withUnits (s.units.set u (some (beginAttempt s e n)))).postFromUnit u
        (settledResult s (beginAttempt s e n)) := by
      rw [State.startAttempt, if_pos h]
      rfl
    refine ⟨hstart, ?_⟩
    rw [hstart]
    have hget : (s.withUnits (s.units.set u (some (beginAttempt s e n)))).units.get u = some (beginAttempt s e n) := by
      cases u <;> rfl
    show Host.Outcome.next (State.complete _ u) = _
    rw [State.complete, hget]
    rfl

end Sys2Proof.Machine

/-! # Proofs: the completion event (R63 to R66) -/

namespace Sys2Proof.Machine

open Sys2Proof.Safety

/-! ## The check of a third attempt (R65) -/

theorem originZoneOf_eq_some {s : State} {o : Option Nat} {z : Fin 32} :
    originZoneOf s o = some z ↔ ∃ k q, o = some k ∧ s.map.nodes.get k = some q ∧ q.zone = some z := by
  simp [originZoneOf, MapStore.nodeZone, Option.bind_eq_some_iff]

theorem hopUsableNow_iff {s : State} {a : Attempt} {h : Hop} : hopUsableNow s a h = true ↔
    ∃ g : Seg, s.map.segs.get h.seg = some g ∧ g.state = .opened ∧ 0 < s.map.paceOf a.entry.profile g.kind
      ∧ (g.kind = .lift → ∃ k : Fin 16, g.group = some k ∧ s.map.liftWaits[k] < 255)
      ∧ ∀ z, g.zone = some z → s.census.zones[z].closed = false
          ∨ ∃ o q, a.origin = some o ∧ s.map.nodes.get o = some q ∧ q.zone = some z := by
  simp only [← originZoneOf_eq_some, ← Seg.usable_iff]
  unfold hopUsableNow
  cases s.map.segs.get h.seg <;> simp

/-! ## The outcomes that sessions take (R136, R139) -/

theorem Session.takeOutcome_of_other {x : Session} {id : Nat} (h : x.state ≠ .routePending ∨ x.pending ≠ some id)
    (o : RouteOutcome) (d : ScreenDecl) : x.takeOutcome id o d = x :=
  if_neg fun ⟨hstate, hpending⟩ => h.elim (· hstate) (· hpending)

theorem Session.takeOutcome_of_pending {x : Session} {id : Nat} (hstate : x.state = .routePending)
    (hpending : x.pending = some id) (o : RouteOutcome) (d : ScreenDecl) : x.takeOutcome id o d =
      if o = .delivered then
        { x with state := .routeShown, pending := none, shown := some id, idle := some ⟨d.idleTimeout, 0⟩
                 stack := ⟨.route id, x.language, x.profile⟩ :: x.stack.take 7 }
      else if o ∈ [RouteOutcome.noRoute, .noRouteUnsettled, .noDestination, .unresolvedMove, .noExit, .cancelled
          , .evacCancelled, .serviceStopped] then
        { x with state := .active, pending := none, idle := some ⟨d.idleTimeout, 0⟩ }
      else x := by
  unfold Session.takeOutcome
  rw [if_pos ⟨hstate, hpending⟩]
  cases o <;> rfl

theorem Session.takeEvacResult_eq (x : Session) (id : Nat) (o : RouteOutcome) (d : ScreenDecl) : x.takeEvacResult id o d =
    if x.state ≠ .alert then x
    else if o = .delivered then { x with evac := some id }
    else if o ∈ [RouteOutcome.noRoute, .noRouteUnsettled, .noExit] then { x with evac := none }
    else x := by
  unfold Session.takeEvacResult
  by_cases h : x.state = .alert
  · rw [if_pos h, if_neg (not_not.mpr h)]
    cases o <;> rfl
  · rw [if_neg h, if_pos h]

/-! ## The posting of an outcome (R66) -/

theorem RouteOutcome.isFailure_iff {o : RouteOutcome} :
    o.isFailure = true ↔ o ∈ [RouteOutcome.noRoute, .noRouteUnsettled, .noExit] := by
  cases o <;> decide

/-- Handing an outcome on touches the screens and the due flags alone (R66, R149). -/
theorem handOutcome_form (s : State) (r : RouteResult) :
    ∃ v d, s.handOutcome r = (s.withScreens v).withEvac { s.evac with due := d }
      ∧ (∀ n : Fin 48, v[n] = (s.screens[n]).map fun c =>
          if r.screen = some n then
            { c with session := match r.cls with
                | .normal => c.session.takeOutcome r.id r.outcome c.decl
                | .evacuation => c.session.takeEvacResult r.id r.outcome c.decl }
          else c)
      ∧ ∀ n : Fin 48, d[n] = if r.screen = some n ∧ r.cls = .evacuation ∧ r.clearsDue = true then false else s.evac.due[n] := by
  have hscreens : ∀ (n k : Fin 48) (f : ScreenDecl → Session → Session), (s.modifySession n f).screens[k]
      = (s.screens[k]).map fun c => if n = k then { c with session := f c.decl c.session } else c := by
    intro n k f
    rw [modifySession_get]
    split
    · rfl
    · exact Option.map_id'.symm
  unfold State.handOutcome
  cases hr : r.screen with
  | none =>
    exact ⟨s.screens, s.evac.due, rfl, fun n => by simp, fun n => by simp⟩
  | some k =>
    simp only [Option.some.injEq]
    cases hc : r.cls with
    | normal =>
      exact ⟨(s.modifySession k (Session.takeOutcome r.id r.outcome)).screens, s.evac.due, rfl, fun n => hscreens k n _,
        fun n => by simp⟩
    | evacuation =>
      dsimp only
      split
      · next hclear =>
        refine ⟨(s.modifySession k (Session.takeEvacResult r.id r.outcome)).screens, s.evac.due.set k false, rfl,
          fun n => hscreens k n _, fun n => ?_⟩
        have hset : (s.evac.due.set k false)[n] = if k.val = n.val then false else s.evac.due[n] := Vector.getElem_set ..
        simp only [hset, hclear, and_self, and_true, Fin.ext_iff]
      · next hclear =>
        exact ⟨(s.modifySession k (Session.takeEvacResult r.id r.outcome)).screens, s.evac.due, rfl,
          fun n => hscreens k n _, fun n => by simp [hclear]⟩

/-- What the posting of a unit's outcome makes of the state (R66). -/
theorem postFromUnit_form (s : State) (u : UnitName) (r : RouteResult) :
    ∃ v d, s.postFromUnit u r = (((((s.withPort (s.port.post (.routeResult r))).withUnits (s.units.set u none)).withWatches
          { s.watches with failures := (if r.outcome ∈ [RouteOutcome.noRoute, .noRouteUnsettled, .noExit] then
              min 65535 (s.watches.failures + 1) else s.watches.failures) }).withScreens v).withEvac
          { s.evac with due := d })
      ∧ (∀ n : Fin 48, v[n] = (s.screens[n]).map fun c =>
          if r.screen = some n then
            { c with session := match r.cls with
                | .normal => c.session.takeOutcome r.id r.outcome c.decl
                | .evacuation => c.session.takeEvacResult r.id r.outcome c.decl }
          else c)
      ∧ ∀ n : Fin 48, d[n] = if r.screen = some n ∧ r.cls = .evacuation ∧ r.clearsDue = true then false else s.evac.due[n] := by
  have hcount : (s.post (.routeResult r)).countFailure r.outcome = (s.post (.routeResult r)).withWatches
      { s.watches with failures := (if r.outcome ∈ [RouteOutcome.noRoute, .noRouteUnsettled, .noExit] then
          min 65535 (s.watches.failures + 1) else s.watches.failures) } := by
    unfold State.countFailure
    simp only [RouteOutcome.isFailure_iff]
    split <;> rfl
  obtain ⟨v, d, heq, hv, hd⟩ := handOutcome_form ((s.post (.routeResult r)).countFailure r.outcome) r
  refine ⟨v, d, ?_, ?_, ?_⟩
  · unfold State.postFromUnit
    dsimp only
    rw [heq, hcount]
    rfl
  · rw [hcount] at hv
    exact hv
  · rw [hcount] at hd
    exact hd

/-! ## The result of a completion (R63, R65) -/

/-- The result with which a unit's last completion event posts. -/
def closingResult (s : State) (a : Attempt) : RouteResult := if a.changed then checkedResult s a else settledResult s a

theorem closingResult_failed {s : State} {a : Attempt} {o : RouteOutcome} (h : a.resolution = .failed o) :
    closingResult s a = emptyResult s a.entry o (unsettledFlag a.changed) := by
  unfold closingResult checkedResult settledResult unsettledFlag
  rw [h]
  split <;> rfl

theorem closingResult_noPath {s : State} {a : Attempt} {set : List Target} {f : ResFlags}
    (h : a.resolution = .targets set f) (hpath : a.path = none) :
    closingResult s a = emptyResult s a.entry .noRoute (f.list ++ unsettledFlag a.changed) := by
  unfold closingResult checkedResult settledResult unsettledFlag
  simp only [h, hpath]
  split
  · rfl
  · rw [List.append_nil]

theorem closingResult_lost {s : State} {a : Attempt} {set : List Target} {f : ResFlags} {p : Path}
    (h : a.resolution = .targets set f) (hpath : a.path = some p) (hchanged : a.changed = true)
    (hlost : p.all (hopUsableNow s a) = false) :
    closingResult s a = emptyResult s a.entry .noRouteUnsettled (f.list ++ [.unsettled]) := by
  unfold closingResult checkedResult
  simp only [h, hpath, hchanged, hlost, if_true] <;> rfl

/-- The cost at which a found path is delivered: that of the start event, or at the third attempt's check that of now. -/
def closingCost (s : State) (a : Attempt) (p : Path) : Nat :=
  if a.changed then heldSum (p.map (hopCostNow s a)) else heldSum (p.map Hop.cost)

theorem closingResult_found {s : State} {a : Attempt} {set : List Target} {f : ResFlags} {p : Path}
    (h : a.resolution = .targets set f) (hpath : a.path = some p)
    (husable : a.changed = true → p.all (hopUsableNow s a) = true) :
    closingResult s a = deliveredResult s a.entry (a.origin.getD 0) set f p (closingCost s a p) a.changed := by
  unfold closingResult checkedResult settledResult closingCost
  simp only [h, hpath]
  cases hc : a.changed with
  | false => rfl
  | true => simp only [husable hc, if_true]

theorem Attempt.path_eq {a : Attempt} {set : List Target} {f : ResFlags} {n : Nat} (h : a.resolution = .targets set f)
    (ho : a.origin = some n) : a.path = foundPath a.view n (set.map Target.node) := by
  unfold Attempt.path
  simp only [h, ho]

/-! ## Flags (R71) -/

theorem flagIf_sublist (b : Bool) (x : RouteFlag) : (if b then [x] else []).Sublist [x] := by
  cases b
  · exact List.nil_sublist _
  · exact List.Sublist.refl _

theorem mem_flagIf {b : Prop} [Decidable b] {x y : RouteFlag} : y ∈ (if b then [x] else []) ↔ b ∧ y = x := by
  split <;> simp [*]

theorem resFlags_sublist (f : ResFlags) : f.list.Sublist [.moved, .destClosed, .hoursUnknown] :=
  ((flagIf_sublist ..).append (flagIf_sublist ..)).append (flagIf_sublist ..)

/-- Flags without a path stand in the order of R71. -/
theorem noPathFlags_sublist (f : ResFlags) (b : Bool) : (f.list ++ unsettledFlag b).Sublist
    [.atDestination, .moved, .destClosed, .hoursUnknown, .originClosed, .estimated, .truncated, .unsettled] := by
  have h := ((List.nil_sublist [RouteFlag.atDestination]).append (resFlags_sublist f)).append
    ((List.nil_sublist [RouteFlag.originClosed, .estimated, .truncated]).append (flagIf_sublist b .unsettled))
  exact h

theorem deliveredFlags_sublist (e : Entry) (f : ResFlags) (p : Path) (t : Option Target) (b : Bool) :
    (deliveredFlags e f p t b).Sublist
      [.atDestination, .moved, .destClosed, .hoursUnknown, .originClosed, .estimated, .truncated, .unsettled] :=
  (((((flagIf_sublist ..).append (resFlags_sublist _)).append (flagIf_sublist ..)).append (flagIf_sublist ..)).append
    (flagIf_sublist ..)).append (flagIf_sublist ..)

theorem mem_resFlags {f : ResFlags} {x : RouteFlag} : x ∈ f.list ↔
    (f.moved = true ∧ x = .moved) ∨ (f.destClosed = true ∧ x = .destClosed) ∨ (f.hoursUnknown = true ∧ x = .hoursUnknown) := by
  simp only [ResFlags.list, List.mem_append, mem_flagIf, or_assoc]

theorem mem_deliveredFlags {e : Entry} {f : ResFlags} {p : Path} {t : Option Target} {b : Bool} {x : RouteFlag} :
    x ∈ deliveredFlags e f p t b ↔ (p = [] ∧ x = .atDestination) ∨ (f.moved = true ∧ x = .moved)
      ∨ (f.destClosed = true ∧ x = .destClosed) ∨ (hoursUnknownAtDelivery e f t = true ∧ x = .hoursUnknown)
      ∨ (originClosed p t = true ∧ x = .originClosed) ∨ ((∃ h ∈ p, h.estimated = true) ∧ x = .estimated)
      ∨ (24 < (legRuns p).length ∧ x = .truncated) ∨ (b = true ∧ x = .unsettled) := by
  simp only [deliveredFlags, List.mem_append, mem_flagIf, mem_resFlags, unsettledFlag, List.isEmpty_iff, List.any_eq_true,
    legsTruncated, decide_eq_true_eq, or_assoc]

theorem unsettled_mem_noPathFlags {f : ResFlags} {b : Bool} : RouteFlag.unsettled ∈ f.list ++ unsettledFlag b ↔ b = true := by
  simp [unsettledFlag, mem_resFlags]

theorem hoursUnknownAtDelivery_iff {e : Entry} {f : ResFlags} {x : Target} :
    hoursUnknownAtDelivery e f (some x) = true ↔
      f.hoursUnknown = true ∨ (∃ k, e.dest = .category k) ∧ x.unknown = true := by
  unfold hoursUnknownAtDelivery
  cases e.dest <;> simp

theorem originClosed_iff {p : Path} {x : Target} :
    originClosed p (some x) = true ↔ (∃ h ∈ p, h.excepted = true) ∨ x.excepted = true := by
  simp only [originClosed, Bool.or_eq_true, List.any_eq_true]

/-! ## The forms of a result -/

/-- What every result of a completion has. -/
structure Closes (s : State) (a : Attempt) (r : RouteResult) : Prop where
  result : ResultOf a.entry r
  generation : r.generation = s.map.generation
  unsettled : RouteFlag.unsettled ∈ r.flags ↔ a.changed = true
  flags : r.flags.Sublist
    [.atDestination, .moved, .destClosed, .hoursUnknown, .originClosed, .estimated, .truncated, .unsettled]
  empty : r.outcome ≠ .delivered → r.listing = none ∧ r.arrival = none ∧ r.cost = 0 ∧ r.eta = 0 ∧ r.legs = []

theorem closes_empty (s : State) (a : Attempt) (o : RouteOutcome) (f : ResFlags) :
    Closes s a (emptyResult s a.entry o (f.list ++ unsettledFlag a.changed)) :=
  ⟨resultOf_empty .., rfl, unsettled_mem_noPathFlags, noPathFlags_sublist .., fun _ => ⟨rfl, rfl, rfl, rfl, rfl⟩⟩

theorem closes_delivered (s : State) (a : Attempt) (n : Nat) (set : List Target) (f : ResFlags) (p : Path) (cost : Nat) :
    Closes s a (deliveredResult s a.entry n set f p cost a.changed) := by
  refine ⟨⟨rfl, rfl, rfl⟩, rfl, ?_, deliveredFlags_sublist .., fun h => absurd rfl h⟩
  show RouteFlag.unsettled ∈ deliveredFlags .. ↔ _
  simp [mem_deliveredFlags]

theorem closes_closingResult (s : State) (a : Attempt) : Closes s a (closingResult s a) := by
  cases hres : a.resolution with
  | failed o =>
    rw [closingResult_failed hres]
    exact closes_empty s a o {}
  | targets set f =>
    cases hpath : a.path with
    | none =>
      rw [closingResult_noPath hres hpath]
      exact closes_empty s a .noRoute f
    | some p =>
      by_cases husable : a.changed = true → p.all (hopUsableNow s a) = true
      · rw [closingResult_found hres hpath husable]
        exact closes_delivered ..
      · obtain ⟨hchanged, hlost⟩ := Classical.not_imp.mp husable
        rw [closingResult_lost hres hpath hchanged (Bool.eq_false_iff.mpr hlost)]
        have h := closes_empty s a .noRouteUnsettled f
        rw [hchanged] at h
        exact h

/-- A result clears the due flag of an EVACUATION entry's screen when nothing ended the entry and CHANGED was clear (R149). -/
theorem Closes.clearsDue_iff {s : State} {a : Attempt} {r : RouteResult} (h : Closes s a r) :
    r.clearsDue = true ↔ r.outcome.isAbort = false ∧ a.changed = false := by
  have hunsettled : r.flags.contains .unsettled = a.changed := by
    rw [Bool.eq_iff_iff, List.contains_iff_mem]
    exact h.unsettled
  simp only [RouteResult.clearsDue, hunsettled, Bool.and_eq_true, Bool.not_eq_true']

/-- What a delivery says of the path it follows (R61, R71, R72). -/
theorem deliveredResult_spec (s : State) (e : Entry) (n : Nat) (set : List Target) (f : ResFlags) (p : Path) (cost : Nat)
    (b : Bool) {r : RouteResult} (hr : r = deliveredResult s e n set f p cost b) :
    r.eta = etaOf r.cost ∧ r.legs = legsOf s.map p ∧ r.arrival = some (((p.getLast?).map Hop.dst).getD n)
      ∧ (RouteFlag.atDestination ∈ r.flags ↔ p = []) ∧ (RouteFlag.truncated ∈ r.flags ↔ 24 < (legRuns p).length)
      ∧ (RouteFlag.estimated ∈ r.flags ↔ ∃ h ∈ p, h.estimated = true)
      ∧ (RouteFlag.moved ∈ r.flags ↔ f.moved = true) ∧ (RouteFlag.destClosed ∈ r.flags ↔ f.destClosed = true)
      ∧ ∀ x, targetAt set (((p.getLast?).map Hop.dst).getD n) = some x →
        r.listing = x.listing
        ∧ (RouteFlag.originClosed ∈ r.flags ↔ (∃ h ∈ p, h.excepted = true) ∨ x.excepted = true)
        ∧ (RouteFlag.hoursUnknown ∈ r.flags ↔ f.hoursUnknown = true ∨ (∃ k, e.dest = .category k) ∧ x.unknown = true) := by
  have hflags : ∀ y, y ∈ r.flags ↔ y ∈ deliveredFlags e f p (targetAt set (arrivalOf n p)) b := fun y => by rw [hr]; rfl
  simp only [hflags, mem_deliveredFlags, reduceCtorEq, and_true, and_false, or_false, false_or]
  subst hr
  refine ⟨rfl, rfl, rfl, trivial, trivial, trivial, trivial, trivial, fun x hx => ?_⟩
  have hx : targetAt set (arrivalOf n p) = some x := hx
  rw [hx, originClosed_iff, hoursUnknownAtDelivery_iff]
  refine ⟨?_, Iff.rfl, Iff.rfl⟩
  simp only [deliveredResult, hx, Option.bind_some]

/-- The completion event of a unit whose attempt is not started again (R63, R65). -/
theorem complete_of_last {s : State} {u : UnitName} {a : Attempt} (ha : s.units.get u = some a)
    (hlast : a.changed = true → 3 ≤ a.number) : s.complete u = (s.postFromUnit u (closingResult s a)).settle := by
  rw [State.complete, ha]
  simp only [State.completeAttempt, closingResult]
  cases hc : a.changed with
  | false => rfl
  | true => simp only [if_true, if_neg (not_lt.mpr (hlast hc))]

/-- Settles O40. -/
theorem completionPostsOrRetries : Obligations.CompletionPostsOrRetries := by
  refine ⟨fun s a h => ⟨hopUsableNow_iff, fun g hg => ?costNow⟩, fun x id o d => ⟨fun h => Session.takeOutcome_of_other h o d,
    fun hstate hpending => Session.takeOutcome_of_pending hstate hpending o d, Session.takeEvacResult_eq x id o d⟩,
    fun s u => ⟨fun hidle => ?idle, fun a ha => ⟨fun hchanged hnumber => ?again, fun hlast => ?post⟩⟩⟩
  case costNow =>
    unfold hopCostNow
    simp only [hg]
  case idle =>
    show Host.Outcome.next (s.complete u) = _
    rw [State.complete, hidle]
  case again =>
    show Host.Outcome.next (s.complete u) = _
    rw [State.complete, ha]
    simp only [State.completeAttempt, hchanged, hnumber, if_true]
  case post =>
    have hpost := complete_of_last ha hlast
    obtain ⟨v, d, hform, hv, hd⟩ := postFromUnit_form s u (closingResult s a)
    rw [hform] at hpost
    have hcloses := closes_closingResult s a
    refine ⟨closingResult s a, _, congrArg Host.Outcome.next hpost, hcloses.result.id, hcloses.result.screen,
      hcloses.result.cls, hcloses.generation, hcloses.unsettled, hcloses.flags, hcloses.empty, fun o hres => ?failed,
      fun set f n hres hn hpath => ?noPath, fun set f n p hres hn hpath => ?found, rfl, rfl, rfl, rfl, hv, fun n => ?due, rfl⟩
    case failed =>
      rw [closingResult_failed hres]
      exact ⟨rfl, rfl, rfl, rfl, rfl, rfl, rfl⟩
    case noPath =>
      rw [closingResult_noPath hres ((Attempt.path_eq hres hn).trans hpath)]
      exact ⟨rfl, rfl, rfl, rfl, rfl⟩
    case found =>
      have hpath := (Attempt.path_eq hres hn).trans hpath
      have hfound := closingResult_found (s := s) hres hpath
      rw [hn] at hfound
      refine ⟨fun hc => ?_, fun hc husable => ?_, fun hc hlost => ?_, fun hdelivered => ?_⟩
      · rw [hfound (by simp [hc]), closingCost, hc]
        exact ⟨rfl, rfl⟩
      · rw [hfound fun _ => List.all_eq_true.mpr husable, closingCost, hc]
        exact ⟨rfl, rfl⟩
      · have hlost : p.all (hopUsableNow s a) = false := by simpa using hlost
        rw [closingResult_lost hres hpath hc hlost]
        exact ⟨rfl, rfl, rfl, rfl, rfl⟩
      · refine deliveredResult_spec s a.entry n set f p _ _ (hfound fun hc => ?_)
        by_contra hlost
        rw [closingResult_lost hres hpath hc (Bool.eq_false_iff.mpr hlost)] at hdelivered
        cases hdelivered
    case due =>
      have := hd n
      simp only [hcloses.clearsDue_iff] at this
      exact this

end Sys2Proof.Machine

/-! # Proofs: beam and pair events (R76 to R83, R85) -/

namespace Sys2Proof.Machine

open Sys2Proof.Safety

/-! ## The table of R78 -/

/-- Where R78 leads a gate that is not in FAULT, by the levels. -/
theorem nextState_spec {st : GateState} (h : st ≠ .fault) (l : Bool × Bool) :
    (l = (false, false) → nextState st l = .clear)
      ∧ (l = (true, false) → nextState st l = if st ∈ [GateState.clear, .enterA, .midA, .leaveA] then .enterA else .leaveB)
      ∧ (l = (false, true) → nextState st l = if st ∈ [GateState.clear, .enterB, .midB, .leaveB] then .enterB else .leaveA)
      ∧ (l = (true, true) → nextState st l = if st ∈ [GateState.enterA, .midA, .leaveA] then .midA
          else if st ∈ [GateState.enterB, .midB, .leaveB] then .midB else .midUnknown) := by
  cases st with
  | fault => exact absurd rfl h
  | _ => exact ⟨by rintro rfl; rfl, by rintro rfl; rfl, by rintro rfl; rfl, by rintro rfl; rfl⟩

/-- The crossing of a TWO_WAY gate (R78). -/
theorem crossingAt_toList (st : GateState) (l : Bool × Bool) : (crossingAt st l).toList =
    if st = .leaveA ∧ l = (false, false) then [Crossing.inbound]
    else if st = .leaveB ∧ l = (false, false) then [Crossing.outbound] else [] := by
  rcases l with ⟨_ | _, _ | _⟩ <;> cases st <;> rfl

/-- The crossing of a ONE_WAY gate (R80). -/
theorem oneWayCrossing_toList (st : GateState) (l : Bool × Bool) : (oneWayCrossing (crossingAt st l)).toList =
    if st = .leaveA ∧ l = (false, false) then [Crossing.inbound] else [] := by
  rcases l with ⟨_ | _, _ | _⟩ <;> cases st <;> rfl

theorem pulseCrossings_eq (before after : Bool × Bool) : pulseCrossings before after =
    (if before.1 = true ∧ after.1 = false then [Crossing.inbound] else [])
      ++ (if before.2 = true ∧ after.2 = false then [Crossing.outbound] else []) := by
  simp only [pulseCrossings, Bool.and_eq_true, Bool.not_eq_true']

/-! ## One event at a gate -/

theorem Gate.Relevelled.same {x y : Gate} (h : x.Relevelled y) : y.mode = x.mode ∧ y.state = x.state
    ∧ y.stuckLimit = x.stuckLimit ∧ y.a.stuck = x.a.stuck ∧ y.b.stuck = x.b.stuck := by
  unfold Gate.Relevelled at h
  rw [h]
  exact ⟨rfl, rfl, rfl, rfl, rfl⟩

theorem stuckAfter_stuck (b : BeamInput) (limit : Nat) (before after : Bool) : (b.stuckAfter limit before after).stuck =
    if after = before then b.stuck else if after then some limit else none := by
  cases before <;> cases after <;> rfl

theorem stuckAfter_eq (b : BeamInput) (limit : Nat) (before after : Bool) :
    b.stuckAfter limit before after = { b with stuck := (b.stuckAfter limit before after).stuck } := by
  cases before <;> cases after <;> rfl

theorem gateTakes_eq (s : State) (g : Fin 32) (f : Gate → Gate) : s.gateTakes g f =
    (Gate.take s.gates[g] (f s.gates[g])).2.foldl (fun t k => t.cross g k)
      (s.withGates (s.gates.set g (Gate.take s.gates[g] (f s.gates[g])).1)) := rfl

/-- The record of a gate that decodes after an event (R77, R83). -/
def decodedGate (x y : Gate) : Gate :=
  { y.stuckAfter x.levels y.levels with state := (decodeEvent y.mode y.state x.levels y.levels).1 }

/-- What a gate that decodes makes of an event. -/
theorem take_of_decodes {x y : Gate} (hxy : x.Relevelled y) (hmode : x.mode ≠ .off) (hstate : x.state ≠ .fault) :
    ∃ (z : Gate) (cs : List Crossing), Gate.take x y = (z, cs)
      ∧ z = { y with state := z.state, a := { y.a with stuck := z.a.stuck }, b := { y.b with stuck := z.b.stuck } }
      ∧ z.a.stuck = (if y.levels.1 = x.levels.1 then x.a.stuck else if y.levels.1 then some x.stuckLimit else none)
      ∧ z.b.stuck = (if y.levels.2 = x.levels.2 then x.b.stuck else if y.levels.2 then some x.stuckLimit else none)
      ∧ decodeEvent x.mode x.state x.levels y.levels = (z.state, cs) := by
  obtain ⟨hm, hs, hl, ha, hb⟩ := hxy.same
  refine ⟨decodedGate x y, (decodeEvent y.mode y.state x.levels y.levels).2, ?_, ?_, ?_, ?_, ?_⟩
  · unfold Gate.take
    rw [if_neg (hm ▸ hmode), if_neg (hs ▸ hstate)]
    rfl
  · exact congrArg₂ (fun a b => { y with state := (decodedGate x y).state, a := a, b := b }) (stuckAfter_eq ..)
      (stuckAfter_eq ..)
  · exact (stuckAfter_stuck ..).trans (by rw [ha, hl])
  · exact (stuckAfter_stuck ..).trans (by rw [hb, hl])
  · rw [← hm, ← hs]
    rfl

/-- The table of R78, with the crossings that the mode takes, for a gate that is neither OFF nor in PULSE. -/
theorem decodeEvent_spec {m : GateMode} {st : GateState} {before l : Bool × Bool} {z : GateState} {cs : List Crossing}
    (hmode : m ≠ .off) (hpulse : m ≠ .pulse) (h : decodeEvent m st before l = (z, cs)) :
    z = nextState st l ∧ cs = (if st = .leaveA ∧ l = (false, false) then [Crossing.inbound]
      else if st = .leaveB ∧ l = (false, false) ∧ m = .twoWay then [Crossing.outbound] else []) := by
  cases m with
  | off => exact absurd rfl hmode
  | pulse => exact absurd rfl hpulse
  | twoWay =>
    obtain ⟨rfl, rfl⟩ := Prod.mk.inj h
    exact ⟨rfl, by simp only [crossingAt_toList, and_true]⟩
  | oneWay =>
    obtain ⟨rfl, rfl⟩ := Prod.mk.inj h
    exact ⟨rfl, by simp only [oneWayCrossing_toList, reduceCtorEq, and_false, if_false]⟩

/-- Settles O41. -/
theorem beamEventsDecode : Obligations.BeamEventsDecode := by
  rintro s g x rfl
  refine ⟨fun high => ⟨rfl, rfl⟩, fun c y hcase => ?_⟩
  obtain ⟨f, hf, hxy, hexec⟩ : ∃ f : Gate → Gate, f s.gates[g] = y ∧ s.gates[g].Relevelled y
      ∧ exec c s = .next (s.gateTakes g f) := by
    rcases hcase with ⟨rfl, hmoves, rfl⟩ | ⟨rfl, hmoves, rfl⟩ | ⟨rfl, hmovesA, hmovesB, rfl⟩
    · refine ⟨fun r => r.mature .a, rfl, rfl, ?_⟩
      exact congrArg Host.Outcome.next (if_pos (bne_iff_ne.mpr hmoves))
    · refine ⟨fun r => r.mature .b, rfl, rfl, ?_⟩
      exact congrArg Host.Outcome.next (if_pos (bne_iff_ne.mpr hmoves))
    · refine ⟨fun r => (r.mature .a).mature .b, rfl, rfl, ?_⟩
      exact congrArg Host.Outcome.next (if_pos (Bool.and_eq_true_iff.mpr ⟨bne_iff_ne.mpr hmovesA, bne_iff_ne.mpr hmovesB⟩))
  rw [hexec, gateTakes_eq, hf]
  refine ⟨fun hmode => ?off, fun hmode hstate => ?fault, fun hmode hstate => ?decodes⟩
  case off => rw [Gate.take, if_pos (hxy.same.1.trans hmode)]; rfl
  case fault => rw [Gate.take, if_neg (hxy.same.1 ▸ hmode), if_pos (hxy.same.2.1.trans hstate)]; rfl
  case decodes =>
    obtain ⟨z, cs, htake, hz, hstuckA, hstuckB, hdecode⟩ := take_of_decodes hxy hmode hstate
    refine ⟨z, cs, by rw [htake], hz, hstuckA, hstuckB, fun hpulse => ?_, fun hpulse => ?_⟩
    · rw [hpulse, decodeEvent, pulseCrossings_eq] at hdecode
      obtain ⟨hclear, hcs⟩ := Prod.mk.inj hdecode
      exact ⟨hclear.symm, hcs.symm⟩
    · obtain ⟨hnext, hcs⟩ := decodeEvent_spec hmode hpulse hdecode
      rw [hnext]
      obtain ⟨h1, h2, h3, h4⟩ := nextState_spec hstate y.levels
      exact ⟨h1, h2, h3, h4, hcs⟩

end Sys2Proof.Machine

/-! # Proofs: passages and stuck gates (R78 to R86) -/

namespace Sys2Proof.Machine

open Sys2Proof.Safety

/-! ## A gate whose record is known -/

theorem gates_set_get (s : State) (g : Fin 32) (x : Gate) : (s.withGates (s.gates.set g x)).gates[g] = x :=
  Vector.getElem_set_self ..

theorem gates_set_set (s : State) (g : Fin 32) (x y : Gate) :
    (s.withGates (s.gates.set g x)).withGates ((s.withGates (s.gates.set g x)).gates.set g y) = s.withGates (s.gates.set g y) :=
  congrArg s.withGates (Vector.set_set ..)

theorem gates_set_same (s : State) (g : Fin 32) : s.withGates (s.gates.set g s.gates[g]) = s :=
  (congrArg s.withGates (Vector.set_getElem_self ..)).trans rfl

theorem modifyGate_set (s : State) (g : Fin 32) (x : Gate) (f : Gate → Gate) :
    (s.withGates (s.gates.set g x)).modifyGate g f = s.withGates (s.gates.set g (f x)) := by
  have hget := gates_set_get s g x
  rw [State.modifyGate, modifyAt, hget]
  exact gates_set_set ..

/-- The people that a crossing moves, and the total that counts it (R82). -/
theorem cross_set (s : State) (g : Fin 32) (x : Gate) :
    (s.withGates (s.gates.set g x)).cross g .inbound
        = ((s.modifySide x.dst Zone.enter).modifySide x.src Zone.leave).withGates
            (s.gates.set g { x with inbound := min 65535 (x.inbound + 1) })
      ∧ (s.withGates (s.gates.set g x)).cross g .outbound
        = ((s.modifySide x.dst Zone.leave).modifySide x.src Zone.enter).withGates
            (s.gates.set g { x with outbound := min 65535 (x.outbound + 1) }) := by
  have hside : ∀ (t : State) (v : Vector Gate 32) (side : Option (Fin 32)) (f : Zone → Zone),
      (t.withGates v).modifySide side f = (t.modifySide side f).withGates v := fun t v side f => by cases side <;> rfl
  have hgates : ∀ (t : State) (side : Option (Fin 32)) (f : Zone → Zone), (t.modifySide side f).gates = t.gates :=
    fun t side f => by cases side <;> rfl
  have hget := gates_set_get s g x
  have hmodify : ∀ (t : State) (f : Gate → Gate), t.gates = s.gates →
      (t.withGates (s.gates.set g x)).modifyGate g f = t.withGates (s.gates.set g (f x)) := fun t f ht => by
    rw [← ht]
    exact modifyGate_set t g x f
  constructor
  · rw [State.cross, hget, hside, hside, hmodify _ _ ((hgates ..).trans (hgates ..))]
    rfl
  · rw [State.cross, hget, hside, hside, hmodify _ _ ((hgates ..).trans (hgates ..))]
    rfl

theorem src_ne_of_dst {dst src : Option (Fin 32)} (hapart : src = none ∨ src ≠ dst) {z : Fin 32} (hd : dst = some z) :
    src ≠ some z := fun hs => hapart.elim (fun h => by simp [h] at hs) (fun h => h (hs.trans hd.symm))

theorem modifySide_zones (s : State) (side : Option (Fin 32)) (f : Zone → Zone) (z : Fin 32) :
    (s.modifySide side f).census.zones[z] = if side = some z then f s.census.zones[z] else s.census.zones[z] := by
  cases side with
  | none => rfl
  | some k =>
    show (modifyAt s.census.zones k f)[z] = _
    rw [modifyAt_get]
    simp only [Option.some.injEq]

/-- The zones after one zone's record is changed on each side of a gate. -/
theorem modifySides_zones (s : State) {dst src : Option (Fin 32)} (hapart : src = none ∨ src ≠ dst) (f h : Zone → Zone)
    (z : Fin 32) : ((s.modifySide dst f).modifySide src h).census.zones[z] =
      if dst = some z then f s.census.zones[z] else if src = some z then h s.census.zones[z] else s.census.zones[z] := by
  rw [modifySide_zones, modifySide_zones]
  by_cases hd : dst = some z
  · rw [if_pos hd, if_neg (src_ne_of_dst hapart hd), if_pos hd]
  · rw [if_neg hd, if_neg hd]

theorem modifySides_frame (s : State) (dst src : Option (Fin 32)) (f h : Zone → Zone) :
    (s.modifySide dst f).modifySide src h = s.withCensus { s.census with
      zones := ((s.modifySide dst f).modifySide src h).census.zones } := by
  cases dst <;> cases src <;> rfl

/-! ## A passage, beam by beam (R78, R79) -/

/-- The record and the crossings that an event gives a gate in TWO_WAY or ONE_WAY, by the table of R78. -/
def tableMove (x y : Gate) : Gate × List Crossing :=
  ({ y.stuckAfter x.levels y.levels with state := nextState y.state y.levels },
   if y.state = .leaveA ∧ y.levels = (false, false) then [.inbound]
   else if y.state = .leaveB ∧ y.levels = (false, false) ∧ y.mode = .twoWay then [.outbound] else [])

theorem take_eq_tableMove {x y : Gate} (hmode : y.mode = .twoWay ∨ y.mode = .oneWay) (hstate : y.state ≠ .fault) :
    Gate.take x y = tableMove x y := by
  have hoff : y.mode ≠ .off ∧ y.mode ≠ .pulse := by rcases hmode with h | h <;> simp [h]
  obtain ⟨hnext, hcs⟩ := decodeEvent_spec (before := x.levels) (l := y.levels) hoff.1 hoff.2 (Prod.eta _).symm
  unfold Gate.take tableMove
  rw [if_neg hoff.1, if_neg hstate, hnext, hcs]

/-- One beam's line takes a level and the change matures, at a gate in TWO_WAY or ONE_WAY whose record is known. -/
theorem runAll_beam {s : State} {g : Fin 32} {x : Gate} (z : Gate) (cs : List Crossing) {beam : Beam} {high : Bool}
    {rest : List Instr} (hmode : x.mode = .twoWay ∨ x.mode = .oneWay) (hstate : x.state ≠ .fault)
    (hmoves : ((x.setBeam beam ((x.beam beam).setLine high)).beam beam).maturing = true)
    (hmove : tableMove (x.setBeam beam ((x.beam beam).setLine high))
      ((x.setBeam beam ((x.beam beam).setLine high)).mature beam) = (z, cs)) :
    runAll (.beamLineChange g beam high :: .beamEvent g beam :: rest) (s.withGates (s.gates.set g x))
      = runAll rest (cs.foldl (fun t k => t.cross g k) (s.withGates (s.gates.set g z))) := by
  have hline : exec (.beamLineChange g beam high) (s.withGates (s.gates.set g x))
      = .next (s.withGates (s.gates.set g (x.setBeam beam ((x.beam beam).setLine high)))) :=
    congrArg Host.Outcome.next (modifyGate_set ..)
  have htake : Gate.take (x.setBeam beam ((x.beam beam).setLine high))
      ((x.setBeam beam ((x.beam beam).setLine high)).mature beam) = (z, cs) :=
    (take_eq_tableMove (by cases beam <;> exact hmode) (by cases beam <;> exact hstate)).trans hmove
  generalize x.setBeam beam ((x.beam beam).setLine high) = y at hmoves htake hline
  have hget := gates_set_get s g y
  have hevent : exec (.beamEvent g beam) (s.withGates (s.gates.set g y))
      = .next (cs.foldl (fun t k => t.cross g k) (s.withGates (s.gates.set g z))) := by
    show Host.Outcome.next _ = _
    rw [hget, if_pos hmoves, gateTakes_eq, hget, htake, gates_set_set]
  rw [runAll, hline]
  show runAll (.beamEvent g beam :: rest) _ = _
  rw [runAll, hevent]

/-- A gate at rest in TWO_WAY or ONE_WAY: CLEAR with both beams clear, its lines not inverted. -/
structure Gate.AtRest (x : Gate) : Prop where
  mode : x.mode = .twoWay ∨ x.mode = .oneWay
  state : x.state = .clear
  invert : x.invert = false
  beamA : x.a.line = false ∧ x.a.debounced = false
  beamB : x.b.line = false ∧ x.b.debounced = false

/-- The record of a gate at rest with its stuck timers stopped. -/
abbrev Gate.rested (x : Gate) : Gate := { x with a := { x.a with stuck := none }, b := { x.b with stuck := none } }

section Passages

variable (s : State) (g : Fin 32) {x : Gate} (hx : x.AtRest)

include hx

/-- From the A side: A, A and B, B, clear. -/
theorem passage_fromA :
    runAll [.beamLineChange g .a true, .beamEvent g .a, .beamLineChange g .b true, .beamEvent g .b,
            .beamLineChange g .a false, .beamEvent g .a, .beamLineChange g .b false, .beamEvent g .b]
        (s.withGates (s.gates.set g x))
      = some ((s.withGates (s.gates.set g x.rested)).cross g .inbound) := by
  obtain ⟨hmode, hstate, hinvert, ⟨hla, hda⟩, ⟨hlb, hdb⟩⟩ := hx
  obtain ⟨m, src, dst, inv, limit, st, i, o, f, ⟨la, da, ta⟩, ⟨lb, db, tb⟩, rec⟩ := x
  dsimp only at hmode hstate hinvert hla hda hlb hdb
  subst hstate hinvert hla hda hlb hdb
  calc
    _ = _ := runAll_beam ⟨m, src, dst, false, limit, .enterA, i, o, f, ⟨true, true, some limit⟩, ⟨false, false, tb⟩, rec⟩
      [] hmode (by nofun) rfl rfl
    _ = _ := runAll_beam ⟨m, src, dst, false, limit, .midA, i, o, f, ⟨true, true, some limit⟩, ⟨true, true, some limit⟩, rec⟩
      [] hmode (by nofun) rfl rfl
    _ = _ := runAll_beam ⟨m, src, dst, false, limit, .leaveA, i, o, f, ⟨false, false, none⟩, ⟨true, true, some limit⟩, rec⟩
      [] hmode (by nofun) rfl rfl
    _ = _ := runAll_beam ⟨m, src, dst, false, limit, .clear, i, o, f, ⟨false, false, none⟩, ⟨false, false, none⟩, rec⟩
      [.inbound] hmode (by nofun) rfl rfl

/-- From the A side, broken off after both beams: A, A and B, A, clear. -/
theorem passage_brokenOff :
    runAll [.beamLineChange g .a true, .beamEvent g .a, .beamLineChange g .b true, .beamEvent g .b,
            .beamLineChange g .b false, .beamEvent g .b, .beamLineChange g .a false, .beamEvent g .a]
        (s.withGates (s.gates.set g x))
      = some (s.withGates (s.gates.set g x.rested)) := by
  obtain ⟨hmode, hstate, hinvert, ⟨hla, hda⟩, ⟨hlb, hdb⟩⟩ := hx
  obtain ⟨m, src, dst, inv, limit, st, i, o, f, ⟨la, da, ta⟩, ⟨lb, db, tb⟩, rec⟩ := x
  dsimp only at hmode hstate hinvert hla hda hlb hdb
  subst hstate hinvert hla hda hlb hdb
  calc
    _ = _ := runAll_beam ⟨m, src, dst, false, limit, .enterA, i, o, f, ⟨true, true, some limit⟩, ⟨false, false, tb⟩, rec⟩
      [] hmode (by nofun) rfl rfl
    _ = _ := runAll_beam ⟨m, src, dst, false, limit, .midA, i, o, f, ⟨true, true, some limit⟩, ⟨true, true, some limit⟩, rec⟩
      [] hmode (by nofun) rfl rfl
    _ = _ := runAll_beam ⟨m, src, dst, false, limit, .enterA, i, o, f, ⟨true, true, some limit⟩, ⟨false, false, none⟩, rec⟩
      [] hmode (by nofun) rfl rfl
    _ = _ := runAll_beam ⟨m, src, dst, false, limit, .clear, i, o, f, ⟨false, false, none⟩, ⟨false, false, none⟩, rec⟩
      [] hmode (by nofun) rfl rfl

/-- From the B side: B, A and B, A, clear. -/
theorem passage_fromB :
    runAll [.beamLineChange g .b true, .beamEvent g .b, .beamLineChange g .a true, .beamEvent g .a,
            .beamLineChange g .b false, .beamEvent g .b, .beamLineChange g .a false, .beamEvent g .a]
        (s.withGates (s.gates.set g x))
      = some (if x.mode = .twoWay then (s.withGates (s.gates.set g x.rested)).cross g .outbound
          else s.withGates (s.gates.set g x.rested)) := by
  obtain ⟨hmode, hstate, hinvert, ⟨hla, hda⟩, ⟨hlb, hdb⟩⟩ := hx
  obtain ⟨m, src, dst, inv, limit, st, i, o, f, ⟨la, da, ta⟩, ⟨lb, db, tb⟩, rec⟩ := x
  dsimp only at hmode hstate hinvert hla hda hlb hdb
  subst hstate hinvert hla hda hlb hdb
  calc
    _ = _ := runAll_beam ⟨m, src, dst, false, limit, .enterB, i, o, f, ⟨false, false, ta⟩, ⟨true, true, some limit⟩, rec⟩
      [] hmode (by nofun) rfl rfl
    _ = _ := runAll_beam ⟨m, src, dst, false, limit, .midB, i, o, f, ⟨true, true, some limit⟩, ⟨true, true, some limit⟩, rec⟩
      [] hmode (by nofun) rfl rfl
    _ = _ := runAll_beam ⟨m, src, dst, false, limit, .leaveB, i, o, f, ⟨true, true, some limit⟩, ⟨false, false, none⟩, rec⟩
      [] hmode (by nofun) rfl rfl
    _ = _ := runAll_beam ⟨m, src, dst, false, limit, .clear, i, o, f, ⟨false, false, none⟩, ⟨false, false, none⟩, rec⟩
      (if m = .twoWay then [.outbound] else []) hmode (by nofun) rfl (by rcases hmode with rfl | rfl <;> rfl)
    _ = _ := by rcases hmode with rfl | rfl <;> rfl

end Passages

/-- Settles O42. -/
theorem passageCountsOnce : Obligations.PassageCountsOnce := by
  rintro s g x hget hmode hstate hinvert hla hda hlb hdb hapart
  have hx : x.AtRest := ⟨hmode, hstate, hinvert, ⟨hla, hda⟩, ⟨hlb, hdb⟩⟩
  have hs : s.withGates (s.gates.set g x) = s := hget ▸ gates_set_same s g
  obtain ⟨hinbound, houtbound⟩ := cross_set s g x.rested
  have hA := passage_fromA s g hx
  have hbroken := passage_brokenOff s g hx
  have hB := passage_fromB s g hx
  rw [hs] at hA hbroken hB
  rw [hinbound] at hA
  rw [houtbound] at hB
  refine ⟨_, _, _, hA, rfl, fun z y hy => ?_, ?_, hbroken, rfl, hB, fun hone => ?_, fun htwo => ?_, ?_⟩
  · subst hy
    exact modifySides_zones s hapart Zone.enter Zone.leave z
  · rw [modifySides_frame]
    rfl
  · simp only [hone, reduceCtorEq, if_false]
  · rw [if_pos htwo]
    refine ⟨rfl, fun z y hy => ?_⟩
    subst hy
    refine (modifySides_zones s hapart Zone.leave Zone.enter z).trans ?_
    by_cases hd : x.dst = some z
    · rw [if_pos hd, if_neg (src_ne_of_dst hapart hd), if_pos hd]
      rfl
    · rw [if_neg hd, if_neg hd]
      rfl
  · split
    · rw [modifySides_frame]
      rfl
    · rfl

end Sys2Proof.Machine

/-! # Proofs: FAULT, recovery and the gate requests (R84 to R89) -/

namespace Sys2Proof.Machine

open Sys2Proof.Safety

/-! ## FAULT and recovery (R84, R86) -/

/-- Settles O43. -/
theorem stuckGateFaultsAndRecovers : Obligations.StuckGateFaultsAndRecovers := by
  rintro s g x rfl
  refine ⟨fun beam hbeam => ?fault, fun h => ?stoppedA, fun h => ?stoppedB, fun h => ?recovers, fun h => ?stopped⟩
  case fault =>
    have hruns : (s.gates[g].beam beam).stuck.isSome = true := by
      rcases hbeam with ⟨rfl, h⟩ | ⟨rfl, h⟩ <;> exact h
    have hframe := modifySides_frame (s.modifyGate g Gate.toFault) s.gates[g].src s.gates[g].dst Zone.estimate Zone.estimate
    have hzones : ∀ z : Fin 32, (((s.modifyGate g Gate.toFault).modifySide s.gates[g].src Zone.estimate).modifySide
        s.gates[g].dst Zone.estimate).census.zones[z]
        = if s.gates[g].src = some z ∨ s.gates[g].dst = some z then { s.census.zones[z] with estimated := true }
          else s.census.zones[z] := fun z => by
      rw [modifySide_zones, modifySide_zones]
      by_cases hsrc : s.gates[g].src = some z <;> by_cases hdst : s.gates[g].dst = some z <;> simp only [hsrc, hdst] <;> rfl
    generalize (((s.modifyGate g Gate.toFault).modifySide s.gates[g].src Zone.estimate).modifySide
      s.gates[g].dst Zone.estimate).census.zones = v at hframe hzones
    refine ⟨((s.modifyGate g Gate.toFault).withCensus { s.census with zones := v }).post (.gateFault g beam s.gates[g].state),
      ?_, rfl, hzones, rfl, rfl⟩
    refine (congrArg Host.Outcome.next (if_pos hruns)).trans ?_
    rw [hframe]
    rfl
  case stoppedA => exact congrArg Host.Outcome.next (if_neg (Bool.eq_false_iff.mp (Option.isSome_eq_false_iff.mpr (Option.isNone_iff_eq_none.mpr h))))
  case stoppedB => exact congrArg Host.Outcome.next (if_neg (Bool.eq_false_iff.mp (Option.isSome_eq_false_iff.mpr (Option.isNone_iff_eq_none.mpr h))))
  case recovers => exact congrArg Host.Outcome.next (if_pos h)
  case stopped => exact congrArg Host.Outcome.next (if_neg (Bool.eq_false_iff.mp h))

/-! ## The GATE request (R88) -/

theorem level_bit (b : BeamInput) (invert : Bool) : bit (b.blocked invert) = if b.debounced = invert then 0 else 1 := by
  unfold BeamInput.blocked
  cases b.debounced <;> cases invert <;> rfl

theorem sideAfter_eq (stored : Option (Fin 32)) (given : Option (Option Nat)) : sideAfter stored given =
    match given with
    | none => stored
    | some none => none
    | some (some n) => toFin? 32 n := by
  rcases given with _ | _ | n <;> rfl

/-- The record of a gate that is configured, before its stuck timers are set (steps 1 to 3 of R88). -/
def Gate.configured (x : Gate) (a : GateArgs) : Gate :=
  { x with mode := a.mode.getD x.mode
           src := match a.src with | none => x.src | some none => none | some (some n) => toFin? 32 n
           dst := match a.dst with | none => x.dst | some none => none | some (some n) => toFin? 32 n
           invert := (a.invert.map fun n => n == 1).getD x.invert, stuckLimit := a.stuck.getD x.stuckLimit
           state := .clear, fault := false, recovery := false }

theorem configure_eq (x : Gate) (a : GateArgs) :
    { x.configure a with state := .clear, fault := false, recovery := false } = x.configured a := by
  simp only [Gate.configure, sideAfter_eq] <;> rfl

theorem configure_clash (x : Gate) (a : GateArgs) : (x.configure a).sidesClash = (x.configured a).sidesClash := by
  rw [← configure_eq]
  rfl

/-- A gate without a passage or a FAULT, its timers stopped (steps 2 and 3 of R88). -/
def Gate.dropped (c : Gate) : Gate :=
  { c with state := .clear, fault := false, recovery := false, a := { c.a with stuck := none }, b := { c.b with stuck := none } }

/-- The timers that a configured gate starts: those of its blocked beams, unless it is OFF (step 4 of R88). -/
theorem restart_configure (x : Gate) (a : GateArgs) {y : Gate} (hy : y = x.configured a) : (x.configure a).restart =
    { y with a := { y.a with stuck := if y.mode ≠ .off ∧ y.levels.1 = true then some y.stuckLimit else none }
             b := { y.b with stuck := if y.mode ≠ .off ∧ y.levels.2 = true then some y.stuckLimit else none } } := by
  rw [← configure_eq] at hy
  subst hy
  generalize x.configure a = c
  have hbeam : ∀ (b : BeamInput) (limit : Nat) (after : Bool), ({ b with stuck := none } : BeamInput).stuckAfter limit false after
      = { b with stuck := if after = true then some limit else none } := fun b limit after => by
    cases after <;> rfl
  have hrestart : c.restart = if c.mode = .off then c.dropped else c.dropped.stuckAfter (false, false) c.dropped.levels := rfl
  rw [hrestart]
  by_cases hoff : c.mode = .off
  · have hstop : ∀ (l : Bool) (t : Option Nat), (if c.mode ≠ .off ∧ l = true then t else none) = none :=
      fun l t => if_neg fun h => h.1 hoff
    rw [if_pos hoff]
    exact congrArg₂ (fun a b => { c with state := .clear, fault := false, recovery := false, a := { c.a with stuck := a }
                                         b := { c.b with stuck := b } }) (hstop _ _).symm (hstop _ _).symm
  · rw [if_neg hoff]
    simp only [ne_eq, hoff, not_false_iff, true_and]
    exact congrArg₂ (fun a b => { c with state := .clear, fault := false, recovery := false, a := a, b := b })
      (hbeam c.a c.stuckLimit _) (hbeam c.b c.stuckLimit _)

theorem sidesClash_iff {g : Gate} : g.sidesClash = true ↔ g.src.isSome = true ∧ g.src = g.dst := by
  simp only [Gate.sidesClash, Bool.and_eq_true, beq_iff_eq]

theorem gateInRange_iff {i : Nat} {a : GateArgs} : gateInRange i a = true ↔ i ≤ 31
    ∧ (∀ n, a.src = some (some n) → n ≤ 31) ∧ (∀ n, a.dst = some (some n) → n ≤ 31) ∧ (∀ n ∈ a.invert, n ≤ 1)
    ∧ ∀ n ∈ a.stuck, 1 ≤ n ∧ n ≤ 255 := by
  simp only [gateInRange, Bool.and_eq_true, decide_eq_true_eq, optWordLe_iff, optLe_iff, optWithin_iff, and_assoc]

/-! ## GATE-READ (R89) -/

theorem clearTotals_eq (x : Gate) :
    x.clearTotals = { x with inbound := 0, outbound := 0, fault := x.fault && decide (x.state = .fault) } := by
  rw [Gate.clearTotals, beq_eq_decide]

/-- Settles O44. -/
theorem gateConfiguredAndRead : Obligations.GateConfiguredAndRead := by
  refine ⟨fun g => ?fields, ?_⟩
  case fields =>
    rw [gateFields, levelsVal, Gate.levels, level_bit, level_bit]
    rfl
  rintro s tag g x rfl
  have hg : decide (g.val ≤ 31) = true := decide_eq_true (Nat.le_of_lt_succ g.isLt)
  refine ⟨fun a y z hsrc hdst hinvert hstuck hy hz => ?_, fun clear hclear => ?readOne, ?clearOne, ?readAll⟩
  have hpass : gateInRange g a = true := gateInRange_iff.mpr ⟨Nat.le_of_lt_succ g.isLt, hsrc, hdst, hinvert, hstuck⟩
  have hy : y = s.gates[g].configured a := hy
  have hrestart : (s.gates[g].configure a).restart = z := (restart_configure _ a hy).trans hz.symm
  refine ⟨fun hapart => ?stored, fun hsome hsame => ?conflict⟩
  case stored =>
    have hclash : (s.gates[g].configure a).sidesClash = false := by
      rw [configure_clash, Bool.eq_false_iff, Ne, sidesClash_iff, ← hy]
      exact fun ⟨hsome, hsame⟩ => hapart.elim (fun h => by simp [h] at hsome) (fun h => h hsame)
    refine exec_of_pass rfl rfl (List.forall_mem_singleton.mpr hpass) ?_
    simp only [toFin?_val, State.taken_gates, hclash, Bool.false_eq_true, if_false]
    show ((s.taken (.gate tag g a)).withGates (s.gates.set g (s.gates[g].configure a).restart), _) = _
    rw [hrestart]
  case conflict =>
    have hclash : (s.gates[g].configure a).sidesClash = true := by
      rw [configure_clash, sidesClash_iff, ← hy]
      exact ⟨hsome, hsame⟩
    refine exec_of_pass rfl rfl (List.forall_mem_singleton.mpr hpass) ?_
    simp only [toFin?_val, State.taken_gates, hclash, if_true]
  case readOne =>
    refine exec_of_pass rfl rfl ?_ ?_
    · rcases hclear with rfl | rfl <;> simp [inRange, optLe, hg]
    · simp only [toFin?_val]
      rcases hclear with rfl | rfl <;> rfl
  case clearOne =>
    refine exec_of_pass rfl rfl (by simp [inRange, optLe, hg]) ?_
    simp only [toFin?_val, ← clearTotals_eq] <;> rfl
  case readAll =>
    refine ⟨mapFin (fun _ r => r.clearTotals) s.gates, gateLines s, exec_of_pass rfl rfl (by simp [inRange, optLe]) ?_,
      fun clear hclear => ?_, fun k => ?_, fun l => ?_, ?_⟩
    · simp only [flagSet, State.taken_gates]
      rfl
    · refine exec_of_pass rfl rfl ?_ ?_
      · rcases hclear with rfl | rfl <;> simp [inRange, optLe]
      · rcases hclear with rfl | rfl <;> rfl
    · rw [mapFin_get, clearTotals_eq]
    · simp only [gateLines, List.mem_map, List.mem_filter, List.mem_finRange, true_and, bne_iff_ne]
      exact exists_congr fun k => and_congr_right fun _ => eq_comm
    · simp only [gateLines, bne, beq_eq_decide, ← decide_not] <;> rfl

end Sys2Proof.Machine

/-! # Proofs: the ZONE request (R92, R93) -/

namespace Sys2Proof.Machine

open Sys2Proof.Safety

/-- The limits that a ZONE request stores (R92). -/
def Zone.limited (x : Zone) (a : ZoneArgs) : Zone :=
  { x with busyAt := a.busy.getD x.busyAt, crowdedAt := a.crowded.getD x.crowdedAt
           margin := min (a.margin.getD x.margin) (a.busy.getD x.busyAt - 1)
           hold := max 1 (min 60 (a.hold.getD x.hold)) }

theorem sameLimits_iff (x : Zone) (a : ZoneArgs) : x.sameLimits (x.limited a) = true ↔ x.limited a = x := by
  obtain ⟨enable, occ, busy, crowded, margin, hold, cls, below, closed, est⟩ := x
  simp only [Zone.sameLimits, Zone.limited, Bool.and_eq_true, beq_iff_eq, Zone.mk.injEq, true_and, and_true, and_assoc]
  exact ⟨fun ⟨h1, h2, h3, h4⟩ => ⟨h1.symm, h2.symm, h3.symm, h4.symm⟩, fun ⟨h1, h2, h3, h4⟩ => ⟨h1.symm, h2.symm, h3.symm, h4.symm⟩⟩

/-- Limits that differ set the below count to 0 (R92). -/
theorem storeLimits_eq (x : Zone) (a : ZoneArgs) :
    x.storeLimits a = { x.limited a with below := if x.limited a ≠ x then 0 else x.below } := by
  have hstore : x.storeLimits a
      = if x.sameLimits (x.limited a) then x.limited a else { x.limited a with below := 0 } := rfl
  rw [hstore]
  by_cases h : x.limited a = x
  · rw [if_pos ((sameLimits_iff x a).mpr h), if_neg (not_not.mpr h)]
    rfl
  · rw [if_neg (mt (sameLimits_iff x a).mp h), if_pos h]

/-- The record that a ZONE request leaves (R92, R93). -/
theorem zoneConfigure_eq (x : Zone) (a : ZoneArgs) (hflag : ∀ e ∈ a.enable, e ≤ 1) : x.configure a =
    { x.limited a with
      enable := match a.enable with
        | none => x.enable
        | some e =>
          if e = 1 then .enabled
          else if x.enable = .enabled then (if x.cls = .clear then .disabled else .disabling) else x.enable
      below :=
        if x.limited a ≠ x ∨ (a.enable = some 1 ∧ x.enable ≠ .enabled) ∨ (a.enable = some 0 ∧ x.enable = .enabled) then 0
        else x.below } := by
  rw [Zone.configure, storeLimits_eq]
  have hkept : (x.limited a).enable = x.enable ∧ (x.limited a).cls = x.cls := ⟨rfl, rfl⟩
  generalize x.limited a = y at hkept
  obtain ⟨hen, hcls⟩ := hkept
  unfold Zone.setEnable Zone.turnOn Zone.turnOff
  cases ha : a.enable with
  | none => simp [hen]
  | some e =>
    have he : e = 0 ∨ e = 1 := by have := hflag e ha; omega
    rcases he with rfl | rfl
    · cases hx : x.enable <;> simp [hen, hcls, hx]
    · cases hx : x.enable <;> simp [hen, hx]

theorem zoneClamps_iff (x : Zone) (a : ZoneArgs) : x.clamps a = true ↔
    (∃ h ∈ a.hold, h < 1 ∨ 60 < h) ∨ a.busy.getD x.busyAt - 1 < a.margin.getD x.margin := by
  have hhold : optWithin 1 60 a.hold = false ↔ ∃ h ∈ a.hold, h < 1 ∨ 60 < h := by
    rw [Bool.eq_false_iff, Ne, optWithin_iff]
    push Not
    exact exists_congr fun h => and_congr_right fun _ => by omega
  rw [Zone.clamps, Bool.or_eq_true, Bool.not_eq_true', hhold, decide_eq_true_eq]
  rfl

/-- Settles O45. -/
theorem zoneConfigured : Obligations.ZoneConfigured := by
  intro s tag z a x y w hx henable hmargin hbusy hbusy' hless hcrowded hy hw
  have hconfigure : x.configure a = w := by
    have hy : y = x.limited a := hy
    subst hy
    exact (zoneConfigure_eq x a henable).trans hw.symm
  have hrange : zoneInRange z x a = true := by
    simp only [zoneInRange, Zone.given, within, Bool.and_eq_true, decide_eq_true_eq, optLe_iff]
    exact ⟨⟨⟨⟨⟨Nat.le_of_lt_succ z.isLt, henable⟩, decide_eq_true hbusy, decide_eq_true hbusy'⟩, decide_eq_true hcrowded⟩,
      decide_eq_true hless⟩, hmargin⟩
  have hzone : (s.taken (.zone tag z a)).zone z = x := hx.symm
  have hclamps : x.clamps a = decide ((∃ h ∈ a.hold, h < 1 ∨ 60 < h)
      ∨ a.busy.getD x.busyAt - 1 < a.margin.getD x.margin) := by
    rw [Bool.eq_iff_iff, decide_eq_true_eq]
    exact zoneClamps_iff x a
  refine exec_of_effect (effect := zoneEffect z a) rfl ?_
  rw [zoneEffect, toFin?_val]
  refine (checked_of_pass (by simp [inRange, hzone, hrange])).trans ?_
  show ((s.taken _).withCensus { s.census with zones := s.census.zones.set z (s.census.zones[z].configure a) }, _) = _
  rw [hzone, ← hx, hconfigure, hclamps, flagVal_decide]

end Sys2Proof.Machine

/-! # Proofs: the census tick, closures and CENSUS-ZERO (R95 to R104) -/

namespace Sys2Proof.Machine

open Sys2Proof.Safety

/-! ## One zone at a tick (R96, R97) -/

/-- An ENABLED zone is classed: it rises to the target, or counts towards its release (R96). -/
theorem classify_eq (x : Zone) : x.classify =
    if x.crowdedAt ≤ x.occupancy ∧ x.cls ≠ .crowded then { x with cls := .crowded, below := 0 }
    else if x.busyAt ≤ x.occupancy ∧ x.cls = .clear then { x with cls := .busy, below := 0 }
    else if x.cls = .crowded ∧ x.occupancy < x.crowdedAt - x.margin
        ∨ x.cls = .busy ∧ x.occupancy < x.busyAt - x.margin then
      if x.below + 1 = x.hold then
        { x with cls := if x.cls = .crowded then .busy else .clear, below := 0 }
      else { x with below := x.below + 1 }
    else { x with below := 0 } := by
  unfold Zone.classify Zone.riseTarget Zone.releases
  by_cases hcrowded : x.crowdedAt ≤ x.occupancy <;> by_cases hbusy : x.busyAt ≤ x.occupancy <;> cases hcls : x.cls <;>
    simp [hcrowded, hbusy, classColumn, classDown]

theorem tick_eq (x : Zone) : x.tick =
    match x.enable with
    | .disabled => x
    | .disabling =>
      { x with cls := if x.cls = .crowded then .busy else .clear
               enable := if x.cls = .crowded then .disabling else .disabled }
    | .enabled =>
      if x.crowdedAt ≤ x.occupancy ∧ x.cls ≠ .crowded then { x with cls := .crowded, below := 0 }
      else if x.busyAt ≤ x.occupancy ∧ x.cls = .clear then { x with cls := .busy, below := 0 }
      else if x.cls = .crowded ∧ x.occupancy < x.crowdedAt - x.margin
          ∨ x.cls = .busy ∧ x.occupancy < x.busyAt - x.margin then
        if x.below + 1 = x.hold then
          { x with cls := if x.cls = .crowded then .busy else .clear, below := 0 }
        else { x with below := x.below + 1 }
      else { x with below := 0 } := by
  unfold Zone.tick
  rw [classify_eq]
  cases hx : x.enable with
  | disabled => rfl
  | disabling => cases hcls : x.cls <;> simp [Zone.bringDown, classDown, hcls, hx]
  | enabled => rfl

/-- No class falls from CROWDED to CLEAR in one tick (R96, R97). -/
theorem tick_cls_ne_clear {x : Zone} (h : x.cls = .crowded) : x.tick.cls ≠ .clear := by
  rw [tick_eq]
  cases x.enable with
  | disabled => simp [h]
  | disabling => simp [h]
  | enabled => simp [h]; split <;> [split <;> simp; simp]

/-! ## The report of a change of classes (R95, R103) -/

theorem census_of_changes {l : List Part} {s t : State} (h : Changes l s t) (hz : l.contains .zones = false)
    (hp : l.contains .period = false) (hr : l.contains .ring = false) : t.census = s.census := by
  have hzones : t.census.zones = s.census.zones := h.same .zones hz
  have hperiod : t.census.period = s.census.period := h.same .period hp
  have hring := h.same .ring hr
  simp only [Part.same, Prod.mk.injEq] at hring
  obtain ⟨htick, hring, hfrozen⟩ := hring
  cases hs : s.census
  cases ht : t.census
  simp only [hs, ht] at hzones hperiod htick hring hfrozen
  rw [hzones, hperiod, htick, hring, hfrozen]

/-- Reporting a change of classes leaves the census. -/
theorem reportClasses_census (s : State) (before : Vector Zone 32) : (s.reportClasses before).census = s.census :=
  (census_of_changes (Changes.bumpIf ..) rfl rfl rfl).trans (census_of_changes (Changes.postAll ..) rfl rfl rfl)

/-- The newest record at the end of the ring, the oldest of 64 out (R104). -/
theorem pushRecord_eq (ring : List HistoryRecord) (r : HistoryRecord) :
    pushRecord ring r = (if ring.length < 64 then ring else ring.drop 1) ++ [r] := by
  unfold pushRecord
  split <;> rfl

theorem classed_form (c : Census) : ∃ v : Vector Zone 32, c.classed = { c with zones := v, tick := (c.tick + 1) % 65536 }
    ∧ ∀ z : Fin 32, v[z] = c.zones[z].tick := by
  refine ⟨_, rfl, fun z => ?_⟩
  rw [mapFin_get]

theorem zeroed_form (c : Census) : ∃ v : Vector Zone 32, c.zeroed = { c with zones := v }
    ∧ ∀ z : Fin 32, v[z] = c.zones[z].zeroed := by
  refine ⟨_, rfl, fun z => ?_⟩
  rw [mapFin_get]

/-- Settles O46. -/
theorem censusTickClassesRecordsAndEvaluates : Obligations.CensusTickClassesRecordsAndEvaluates := by
  intro s
  obtain ⟨v, hclassed, hv⟩ := classed_form s.census
  have hcensus := reportClasses_census (s.withCensus s.census.classed) s.census.zones
  have hexec : exec .censusTick s = .next (State.evaluateWatches
      (((s.withCensus s.census.classed).reportClasses s.census.zones).withCensus
        ((s.withCensus s.census.classed).reportClasses s.census.zones).census.record)) := rfl
  rw [hclassed] at hcensus hexec
  refine ⟨v, _, (s.withCensus { s.census with zones := v, tick := (s.census.tick + 1) % 65536 }).reportClasses
    s.census.zones, _, hexec, fun z x hx => ?_, fun z h => ?_, rfl, rfl, ?_⟩
  · subst hx
    exact (hv z).trans (tick_eq _)
  · rw [hv z]
    exact tick_cls_ne_clear h
  · generalize (s.withCensus { s.census with zones := v, tick := (s.census.tick + 1) % 65536 }).reportClasses s.census.zones = u
      at hcensus
    have hcensus : u.census = { s.census with zones := v, tick := (s.census.tick + 1) % 65536 } := hcensus
    rw [Census.record, hcensus, pushRecord_eq]
    dsimp only
    split
    · rw [← hcensus]
      rfl
    · rfl

/-! ## Closures and CENSUS-ZERO (R100, R103) -/

theorem zeroed_eq (x : Zone) : x.zeroed = { x with
    occupancy := 0, below := 0, cls := .clear, estimated := false
    enable := if x.enable = .disabling then .disabled else x.enable } := by
  unfold Zone.zeroed
  cases x.enable <;> rfl

/-- Settles O48. -/
theorem closuresAndCensusZero : Obligations.ClosuresAndCensusZero := by
  intro s tag
  refine ⟨fun z c closing hc => ?closure, ?zero⟩
  case closure =>
    have hexec : exec c s = respond c tag s (closureEffect z closing) := by
      rcases hc with ⟨rfl, rfl⟩ | ⟨rfl, rfl⟩ <;> rfl
    refine ⟨(s.taken c).setClosed z closing, exec_of_effect hexec ?_, fun h => ?_, fun h => ?_⟩
    · rw [closureEffect, toFin?_val]
      rfl
    · exact if_pos h
    · exact if_neg h
  case zero =>
    obtain ⟨v, hzeroed, hv⟩ := zeroed_form s.census
    have hexec : exec (.censusZero tag) s = .next ((((s.taken (.censusZero tag)).withCensus s.census.zeroed).reportClasses
        s.census.zones).reply tag (.ok [(.changed, .num (classNotices s.census.zones s.census.zeroed.zones
          s.census.tick).length), genField (((s.taken (.censusZero tag)).withCensus s.census.zeroed).reportClasses
        s.census.zones)])) := rfl
    rw [hzeroed] at hexec
    refine ⟨v, classNotices s.census.zones v s.census.tick, _, hexec, fun z => (hv z).trans (zeroed_eq _), ?_, rfl⟩
    have hcls : ∀ z : Fin 32, v[z].cls = .clear := fun z => by
      rw [hv z]
      rfl
    unfold classNotices
    simp only [hcls]

end Sys2Proof.Machine

/-! # Proofs: the readings of the census (R94, R105 to R107) -/

namespace Sys2Proof.Machine

open Sys2Proof.Safety

/-- Where a reading of the ring begins: at the first record with the tick asked for (R106). -/
theorem historyFrom_found {before after : List HistoryRecord} {r : HistoryRecord}
    (hbefore : ∀ q ∈ before, q.tick ≠ r.tick) : historyFrom (before ++ r :: after) (some r.tick) = (r :: after, false) := by
  have hdrop : (before ++ r :: after).dropWhile (fun q => q.tick != r.tick) = r :: after := by
    rw [List.dropWhile_append_of_pos fun q hq => bne_iff_ne.mpr (hbefore q hq)]
    simp
  simp only [historyFrom, hdrop]

/-- A reading begins at the oldest record when none has the tick asked for (R106). -/
theorem historyFrom_missing {ring : List HistoryRecord} {t : Nat} (h : ∀ q ∈ ring, q.tick ≠ t) :
    historyFrom ring (some t) = (ring, true) := by
  have hdrop : ring.dropWhile (fun q => q.tick != t) = [] :=
    List.dropWhile_eq_nil_iff.mpr fun q hq => bne_iff_ne.mpr (h q hq)
  simp only [historyFrom, hdrop]

theorem historyFrom_eq {ring records : List HistoryRecord} {next : Option Nat} {missing : Bool}
    (h : match next with
      | none => records = ring ∧ missing = false
      | some t =>
        (∃ before r after, ring = before ++ r :: after ∧ r.tick = t ∧ (∀ q ∈ before, q.tick ≠ t)
          ∧ records = r :: after ∧ missing = false)
        ∨ (∀ q ∈ ring, q.tick ≠ t) ∧ records = ring ∧ missing = true) :
    historyFrom ring next = (records, missing) := by
  cases next with
  | none =>
    obtain ⟨rfl, rfl⟩ := h
    rfl
  | some t =>
    rcases h with ⟨before, r, after, rfl, rfl, hbefore, rfl, rfl⟩ | ⟨hno, rfl, rfl⟩
    · exact historyFrom_found hbefore
    · exact historyFrom_missing hno

/-- Settles O49. -/
theorem censusReadingsAnswer : Obligations.CensusReadingsAnswer := by
  refine ⟨fun i z => ?fields, fun s tag => ⟨fun p => ?period, rfl, rfl, fun next records missing hnext h => ?history,
    fun z => ?one, rfl⟩⟩
  case fields => cases hz : z.enable <;> cases hc : z.cls <;> simp only [zoneFields, hz, hc] <;> rfl
  case period =>
    have hclamped : flagVal (!within 1 60 p) = .num (if 1 ≤ p ∧ p ≤ 60 then 0 else 1) := by
      have hwithin : (!within 1 60 p) = decide ¬ (1 ≤ p ∧ p ≤ 60) := by
        rw [within, ← Bool.decide_and, decide_not]
      rw [hwithin, flagVal_decide]
      simp only [ite_not]
    rw [← hclamped]
    rfl
  case history =>
    refine exec_of_pass rfl rfl (by simp [inRange, optLe_iff.mpr hnext]) ?_
    have hfrom : historyFrom (s.taken (.history tag next)).census.ring next = (records, missing) := historyFrom_eq h
    simp only [hfrom]
    cases records.drop 8 <;> rfl
  case one =>
    refine exec_of_effect (effect := zoneReadEffect (some z)) rfl ?_
    rw [zoneReadEffect, toFin?_val]
    rfl

end Sys2Proof.Machine

/-! # Proofs: watches, their turns, firing and timers (R110, R114 to R119) -/

namespace Sys2Proof.Machine

open Sys2Proof.Safety

/-! ## Watches as one update -/

theorem modifyWatch_form (s : State) (w : Fin 8) (f : Watch → Watch) :
    ∃ ws : Vector Watch 8, s.modifyWatch w f = s.withWatches { s.watches with watches := ws }
      ∧ ∀ k : Fin 8, ws[k] = if w = k then f s.watches.watches[k] else s.watches.watches[k] := by
  refine ⟨_, rfl, fun k => ?_⟩
  rw [modifyAt_get]

theorem endPulses_form (s : State) (w : Fin 8) :
    ∃ alerts : Vector (Option (Fin 8)) 4, s.endPulses w = s.withWatches { s.watches with alerts := alerts }
      ∧ ∀ l : Fin 4, alerts[l] = if s.watches.alerts[l] = some w then none else s.watches.alerts[l] := by
  refine ⟨_, rfl, fun l => ?_⟩
  rw [mapFin_get]

theorem watchBefore_eq (w k : Fin 8) : watchBefore w = some k ↔ k.val + 1 = w.val := by
  unfold watchBefore
  split
  · next h =>
    rw [toFin?_of_lt (by omega), Option.some.injEq, Fin.ext_iff]
    dsimp only
    omega
  · next h => exact ⟨nofun, fun h' => by omega⟩

theorem watchAfter_eq (w k : Fin 8) : watchAfter w = some k ↔ k.val = w.val + 1 := by
  unfold watchAfter
  by_cases h : w.val + 1 < 8
  · rw [toFin?_of_lt h, Option.some.injEq, Fin.ext_iff]
    exact eq_comm
  · rw [toFin?_of_le (not_lt.mp h)]
    exact ⟨nofun, fun h' => by omega⟩

/-- A chained watch that fires returns a STAGED predecessor to ARMED, and no other (R115, R117, R118). -/
theorem returnPredecessor_form (s : State) (w : Fin 8) :
    ∃ ws : Vector Watch 8, s.returnPredecessor w = s.withWatches { s.watches with watches := ws }
      ∧ ∀ k : Fin 8, ws[k] =
        if s.watches.watches[w].chained = true ∧ k.val + 1 = w.val ∧ s.watches.watches[k].state = .staged then
          { s.watches.watches[k] with state := .armed, remaining := s.watches.watches[k].countBefore }
        else s.watches.watches[k] := by
  unfold State.returnPredecessor
  split
  · next hchained =>
    cases hp : watchBefore w with
    | none =>
      refine ⟨s.watches.watches, rfl, fun k => (if_neg ?_).symm⟩
      rintro ⟨-, hk, -⟩
      rw [(watchBefore_eq w k).mpr hk] at hp
      cases hp
    | some p =>
      obtain ⟨ws, heq, hws⟩ := modifyWatch_form s p Watch.returned
      refine ⟨ws, heq, fun k => ?_⟩
      have hpk : p = k ↔ k.val + 1 = w.val := by
        rw [← watchBefore_eq, hp, Option.some.injEq]
      simp only [hws k, hpk, hchained, true_and]
      unfold Watch.returned
      by_cases hk : k.val + 1 = w.val <;> simp [hk]
  · next hchained => exact ⟨s.watches.watches, rfl, fun k => (if_neg fun h => hchained h.1).symm⟩

/-- How a firing ends: the watch's state is set, and its predecessor returned. -/
theorem finish_form (s : State) (w : Fin 8) (st : WatchState) :
    ∃ ws : Vector Watch 8, (s.watchTo w st).returnPredecessor w = s.withWatches { s.watches with watches := ws }
      ∧ ∀ k : Fin 8, ws[k] =
        if k = w then { s.watches.watches[w] with state := st }
        else if s.watches.watches[w].chained = true ∧ k.val + 1 = w.val ∧ s.watches.watches[k].state = .staged then
          { s.watches.watches[k] with state := .armed, remaining := s.watches.watches[k].countBefore }
        else s.watches.watches[k] := by
  obtain ⟨ws, hto, hws⟩ := modifyWatch_form s w fun x => { x with state := st }
  have hto : s.watchTo w st = s.withWatches { s.watches with watches := ws } := hto
  obtain ⟨us, hreturn, hus⟩ := returnPredecessor_form (s.watchTo w st) w
  rw [hto] at hreturn hus ⊢
  have hus : ∀ k : Fin 8, us[k] = if ws[w].chained = true ∧ k.val + 1 = w.val ∧ ws[k].state = .staged then
      { ws[k] with state := .armed, remaining := ws[k].countBefore } else ws[k] := hus
  refine ⟨us, hreturn, fun k => ?_⟩
  rw [hus k]
  by_cases hk : k = w
  · subst hk
    rw [if_pos rfl, if_neg (by omega), hws k, if_pos rfl]
  · have hother : ws[k] = s.watches.watches[k] := by rw [hws k, if_neg (Ne.symm hk)]
    have hself : ws[w].chained = s.watches.watches[w].chained := by rw [hws w, if_pos rfl]
    rw [if_neg hk, hother, hself]

/-! ## A turn in the evaluation (R110, R114) -/

theorem classColumn_val (c : ZoneClass) :
    (classColumn c : Nat) = match c with | .clear => 0 | .busy => 1 | .crowded => 2 := by
  cases c <;> rfl

theorem subjectValue_eq (s : State) (sub : Subject) : s.subjectValue sub = match sub with
    | .occupancy z => s.census.zones[z].occupancy
    | .cls z => match s.census.zones[z].cls with | .clear => 0 | .busy => 1 | .crowded => 2
    | .gateFault g => if s.gates[g].fault then 1 else 0
    | .demand l => ((s.map.listings.get l).map Listing.demand).getD 0
    | .failures => s.watches.failures
    | .queueDepth => s.queue.entries.length := by
  cases sub with
  | cls z => exact classColumn_val _
  | _ => rfl

theorem watchTurn_of_not_armed {s : State} {w : Fin 8} (h : s.watches.watches[w].state ≠ .armed) : s.watchTurn w = s := by
  unfold State.watchTurn
  dsimp only
  split
  · next hstate _ _ => exact absurd hstate h
  · rfl

theorem watchTurn_of_armed {s : State} {w : Fin 8} {sub : Subject} {act : WatchAction}
    (hstate : s.watches.watches[w].state = .armed) (hsub : s.watches.watches[w].subject = some sub)
    (hact : s.watches.watches[w].action = some act) : s.watchTurn w =
      if cmpHolds s.watches.watches[w].cmp (s.subjectValue sub) s.watches.watches[w].threshold then
        if s.watches.watches[w].remaining = 0 then s.fire w act (s.subjectValue sub)
        else s.modifyWatch w fun y => { y with remaining := y.remaining - 1 }
      else s := by
  unfold State.watchTurn
  simp only [hstate, hsub, hact]

/-! ## Firing (R115, R117, R118) -/

/-- The state to which a watch goes when it fires (R115, R117, R118). -/
def firedState : WatchAction → WatchState
  | .report | .pulse _ => .holdOff
  | .freeze | .apply _ => .fired
  | .stage => .staged

/-- The watch's notice says that a zone was closed now (R115). -/
def closesNow (s : State) : WatchAction → Bool
  | .apply z => !s.census.zones[z].closed
  | .report | .pulse _ | .freeze | .stage => false

/-- What a watch's action does between its notice and its change of state (R115, R117). -/
def State.actedOn (s : State) (w : Fin 8) : WatchAction → State
  | .report | .stage => s
  | .pulse l => s.pulseLine l w
  | .freeze => s.withCensus { s.census with frozen := true }
  | .apply z => s.setClosed z true

theorem fire_eq {act : WatchAction} (h : act ≠ .stage) (s : State) (w : Fin 8) (value : Nat) : s.fire w act value =
    ((((s.reportFiring w act value (closesNow s act)).actedOn w act).watchTo w (firedState act))).returnPredecessor w := by
  cases act with
  | stage => exact absurd rfl h
  | _ => rfl

theorem actedOn_watches (s : State) (w : Fin 8) (act : WatchAction) :
    (s.actedOn w act).watches.watches = s.watches.watches := by
  cases act with
  | apply z => exact (Changes.setClosed s z true).same .watches rfl
  | _ => rfl

/-- A STAGE watch becomes STAGED, its WAITING successor ARMED, and its STAGED predecessor is returned (R118). -/
theorem fire_stage_form (s : State) (w : Fin 8) (value : Nat) :
    ∃ ws : Vector Watch 8, s.fire w .stage value = s.withWatches { s.watches with watches := ws }
      ∧ ∀ k : Fin 8, ws[k] =
        if k = w then { s.watches.watches[w] with state := .staged }
        else if k.val = w.val + 1 ∧ s.watches.watches[k].state = .waiting then { s.watches.watches[k] with state := .armed }
        else if s.watches.watches[w].chained = true ∧ k.val + 1 = w.val ∧ s.watches.watches[k].state = .staged then
          { s.watches.watches[k] with state := .armed, remaining := s.watches.watches[k].countBefore }
        else s.watches.watches[k] := by
  obtain ⟨us, hto, hus⟩ := modifyWatch_form s w fun x => { x with state := .staged }
  have hto : s.watchTo w .staged = s.withWatches { s.watches with watches := us } := hto
  have hstaged : ∃ vs : Vector Watch 8, (match watchAfter w with
        | none => s.watchTo w .staged
        | some n => (s.watchTo w .staged).modifyWatch n Watch.staged) = s.withWatches { s.watches with watches := vs }
      ∧ ∀ k : Fin 8, vs[k] = if k.val = w.val + 1 ∧ us[k].state = .waiting then { us[k] with state := .armed }
          else us[k] := by
    cases hn : watchAfter w with
    | none =>
      refine ⟨us, hto, fun k => (if_neg ?_).symm⟩
      rintro ⟨hk, -⟩
      rw [(watchAfter_eq w k).mpr hk] at hn
      cases hn
    | some n =>
      obtain ⟨vs, heq, hvs⟩ := modifyWatch_form (s.watchTo w .staged) n Watch.staged
      rw [hto] at heq hvs
      have hvs : ∀ k : Fin 8, vs[k] = if n = k then Watch.staged us[k] else us[k] := hvs
      refine ⟨vs, by rw [hto]; exact heq, fun k => ?_⟩
      have hnk : n = k ↔ k.val = w.val + 1 := by rw [← watchAfter_eq, hn, Option.some.injEq]
      rw [hvs k]
      unfold Watch.staged
      by_cases hk : k.val = w.val + 1 <;> simp [hnk, hk]
  obtain ⟨vs, hmatch, hvs⟩ := hstaged
  have hfire : s.fire w .stage value = (match watchAfter w with
        | none => s.watchTo w .staged
        | some n => (s.watchTo w .staged).modifyWatch n Watch.staged).returnPredecessor w := rfl
  rw [hmatch] at hfire
  obtain ⟨ws, hreturn, hws⟩ := returnPredecessor_form (s.withWatches { s.watches with watches := vs }) w
  have hws : ∀ k : Fin 8, ws[k] = if vs[w].chained = true ∧ k.val + 1 = w.val ∧ vs[k].state = .staged then
      { vs[k] with state := .armed, remaining := vs[k].countBefore } else vs[k] := hws
  refine ⟨ws, hfire.trans hreturn, fun k => ?_⟩
  have hself : vs[w] = { s.watches.watches[w] with state := .staged } := by
    rw [hvs w, if_neg (by omega), hus w, if_pos rfl]
  rw [hws k, hself]
  by_cases hk : k = w
  · subst hk
    rw [if_pos rfl, if_neg (by omega), hself]
  · have hother : us[k] = s.watches.watches[k] := by rw [hus k, if_neg (Ne.symm hk)]
    rw [if_neg hk, hvs k, hother]
    by_cases hnext : k.val = w.val + 1
    · rw [if_neg (by omega), if_neg (by omega : ¬ (s.watches.watches[w].chained = true ∧ k.val + 1 = w.val ∧ _))]
    · simp only [hnext, false_and, if_false]

/-- How a watch fires, in one form for every action (R115, R117, R118). -/
theorem fire_form (s : State) (w : Fin 8) (act : WatchAction) (value : Nat) :
    ∃ (told v : State) (ws : Vector Watch 8), s.fire w act value = v.withWatches { v.watches with watches := ws }
      ∧ told = s.reportFiring w act value (closesNow s act) ∧ v = (if act = .stage then s else told.actedOn w act)
      ∧ ∀ k : Fin 8, ws[k] =
        if k = w then { s.watches.watches[w] with occurred := s.watches.watches[w].occurred || decide (act ≠ .stage)
                                                  state := firedState act }
        else if act = .stage ∧ k.val = w.val + 1 ∧ s.watches.watches[k].state = .waiting then
          { s.watches.watches[k] with state := .armed }
        else if s.watches.watches[w].chained = true ∧ k.val + 1 = w.val ∧ s.watches.watches[k].state = .staged then
          { s.watches.watches[k] with state := .armed, remaining := s.watches.watches[k].countBefore }
        else s.watches.watches[k] := by
  by_cases hact : act = .stage
  · subst hact
    obtain ⟨ws, hfire, hws⟩ := fire_stage_form s w value
    refine ⟨_, s, ws, hfire, rfl, rfl, fun k => ?_⟩
    rw [hws k]
    simp only [ne_eq, not_true, decide_false, Bool.or_false, true_and, firedState]
  · obtain ⟨ws, hfinish, hws⟩ := finish_form ((s.reportFiring w act value (closesNow s act)).actedOn w act) w (firedState act)
    refine ⟨_, _, ws, (fire_eq hact s w value).trans hfinish, rfl, (if_neg hact).symm, fun k => ?_⟩
    have hwatches : ∀ j : Fin 8, ((s.reportFiring w act value (closesNow s act)).actedOn w act).watches.watches[j]
        = if w = j then { s.watches.watches[j] with occurred := true } else s.watches.watches[j] := fun j => by
      have hreport : (s.reportFiring w act value (closesNow s act)).watches.watches
        = modifyAt s.watches.watches w fun x => { x with occurred := true } := rfl
      rw [show ((s.reportFiring w act value (closesNow s act)).actedOn w act).watches.watches[j]
        = (modifyAt s.watches.watches w fun x => { x with occurred := true })[j] from
          congrArg (fun v : Vector Watch 8 => v[j]) ((actedOn_watches ..).trans hreport), modifyAt_get]
    rw [hws k, hwatches w, hwatches k]
    by_cases hk : k = w
    · subst hk
      simp [hact]
    · simp only [hk, Ne.symm hk, if_true, if_false, hact, false_and]

/-- Settles O51. -/
theorem watchesFireAndTheirTimersExpire : Obligations.WatchesFireAndTheirTimersExpire := by
  refine ⟨?turns, fun s => ⟨?holdOffs, fun l => ?pulses⟩⟩
  case turns =>
    rintro s w x rfl
    refine ⟨watchTurn_of_not_armed, fun sub act value hit hstate hsub hact hvalue hhit => ?_⟩
    have hvalue : s.subjectValue sub = value := (subjectValue_eq s sub).trans hvalue.symm
    have hholds : cmpHolds s.watches.watches[w].cmp value s.watches.watches[w].threshold = hit := by
      rw [hhit]
      cases s.watches.watches[w].cmp <;> rfl
    have hturn := watchTurn_of_armed hstate hsub hact
    rw [hvalue, hholds] at hturn
    refine ⟨fun h => ?_, fun h hremaining => ?_, fun h hremaining => ?_⟩
    · rw [hturn, if_neg (by simp [h])]
    · rw [hturn, if_pos h, if_neg (Nat.pos_iff_ne_zero.mp hremaining)]
      rfl
    · rw [hturn, if_pos h, if_pos hremaining]
      obtain ⟨told, v, ws, hfire, htold, hv, hws⟩ := fire_form s w act value
      refine ⟨told, v, ws, closesNow s act, hfire, ?_, htold, ?_, fun k => ?_⟩
      · cases act <;> rfl
      · cases act with
        | stage => exact hv
        | apply z =>
          have hclosed : told.zone z = s.census.zones[z] := by rw [htold]; rfl
          rw [hv, if_neg (by simp)]
          show told.setClosed z true = _
          rw [State.setClosed, hclosed]
          rfl
        | _ => exact hv
      · rw [hws k]
        cases act <;> rfl
  case holdOffs =>
    rintro w x rfl
    exact ⟨fun h => congrArg Host.Outcome.next (if_pos h), fun h => congrArg Host.Outcome.next (if_neg h)⟩
  case pulses =>
    have hget : ∀ k : Fin 4, (s.watches.alerts.set l none)[k] = if l.val = k.val then none else s.watches.alerts[k] :=
      fun k => Vector.getElem_set ..
    refine ⟨_, rfl, ?_, fun k hk => ?_, rfl⟩
    · show ((s.watches.alerts.set l none)[l]).isSome = false
      rw [hget l, if_pos rfl]
      rfl
    · exact (hget k).trans (if_neg fun h => hk (Fin.ext h.symm))

end Sys2Proof.Machine

/-! # Proofs: the watch requests (R112, R113, R120 to R122) -/

namespace Sys2Proof.Machine

open Sys2Proof.Safety

theorem lt_of_toFin? {n k : Nat} {i : Fin n} (h : toFin? n k = some i) : k < n := by
  by_contra hk
  rw [toFin?_of_le (not_lt.mp hk)] at h
  cases h

theorem lt_of_map_toFin? {α : Type} {n k : Nat} {f : Fin n → α} {y : α} (h : (toFin? n k).map f = some y) : k < n := by
  obtain ⟨i, hi, -⟩ := Option.map_eq_some_iff.mp h
  exact lt_of_toFin? hi

/-- A subject that a request names has its ZONE and GATE in range (R112). -/
theorem watchSubject?_range {a : WatchArgs} {sub : Subject} (h : watchSubject? a = some sub) :
    (∀ n ∈ a.zone, n ≤ 31) ∧ ∀ n ∈ a.gate, n ≤ 31 := by
  unfold watchSubject? at h
  split at h
  · next hz hg _ =>
    have := lt_of_map_toFin? h
    simp [hz, hg]; omega
  · next hz hg _ =>
    have := lt_of_map_toFin? h
    simp [hz, hg]; omega
  · next hz hg _ =>
    have := lt_of_map_toFin? h
    simp [hz, hg]; omega
  · next hz hg _ => simp [hz, hg]
  · next hz hg _ => simp [hz, hg]
  · next hz hg _ => simp [hz, hg]
  · cases h

/-- An action that a request names has its LINE and TARGET in range (R112). -/
theorem watchAction?_range {a : WatchArgs} {act : WatchAction} (h : watchAction? a = some act) :
    (∀ n ∈ a.line, n ≤ 3) ∧ ∀ n ∈ a.target, n ≤ 31 := by
  unfold watchAction? at h
  split at h
  · next hl ht =>
    have := lt_of_map_toFin? h
    simp [hl, ht]; omega
  · next hl ht =>
    have := lt_of_map_toFin? h
    simp [hl, ht]; omega
  · next hl ht => simp [hl, ht]
  · next hl ht => simp [hl, ht]
  · next hl ht => simp [hl, ht]
  · cases h

/-- A line that is high has an owner (R116). -/
theorem alert_bit (s : State) (l : Fin 4) : bit (s.alertHigh l) = if s.watches.alerts[l] = none then 0 else 1 := by
  unfold State.alertHigh
  cases s.watches.alerts[l] <;> rfl

theorem alertField_eq (s : State) : alertField s = (.alert, .nums
    ((List.finRange 4).map fun (l : Fin 4) => if s.watches.alerts[l] = none then 0 else 1)) := by
  simp only [alertField, alert_bit]

theorem watchFields_eq (s : State) (k : Fin 8) {y : Watch} (hy : y = s.watches.watches[k]) : watchFields s k =
    [(.watch, .num k), (.configured, .num (if y.configured then 1 else 0)),
      (.state, .word (watchStateWord y.state)), (.remaining, .num y.remaining),
      (.occurred, .num (if y.occurred then 1 else 0))]
    ++ (if y.configured then
        configFields y ++ (match y.subject with
          | none => []
          | some sub => [(.value, .num (s.subjectValue sub))])
      else []) := by
  subst hy
  rfl

/-- Settles O50. -/
theorem watchRequestsConfigureAndArm : Obligations.WatchRequestsConfigureAndArm := by
  refine ⟨fun y => ?config, ?_⟩
  case config =>
    obtain ⟨configured, subject, cmp, threshold, count, remaining, chained, action, holdoff, state, occurred⟩ := y
    refine congrArg₂ (· ++ ·) (congrArg₂ (· ++ ·) (congrArg₂ (· ++ ·) ?_ rfl) ?_) rfl
    · rcases subject with _ | subject
      · rfl
      · cases subject <;> rfl
    · rcases action with _ | action
      · rfl
      · cases action <;> rfl
  rintro s tag w x rfl
  refine ⟨fun a sub act y hsub hact hlisting hthreshold hcount hchained hholdoff hfirst hlast hy => ?put,
    fun y hconfigured hy => ?arm, ?off, ?read⟩
  case put =>
    obtain ⟨hzone, hgate⟩ := watchSubject?_range hsub
    obtain ⟨hline, htarget⟩ := watchAction?_range hact
    obtain ⟨alerts, hends, halerts⟩ := endPulses_form ((s.taken (.watch tag w a)).modifyWatch w fun _ => y) w
    refine ⟨alerts, halerts, ?_⟩
    have hrecord : watchRecord a sub act = y := by
      rw [hy, watchRecord, flagSet, beq_eq_decide]
    refine exec_of_pass rfl rfl ?_ ?_
    · have hrange : watchInRange w a = true := by
        simp only [watchInRange, Bool.and_eq_true, decide_eq_true_eq, optLe_iff, optWithin_iff]
        exact ⟨⟨⟨⟨⟨⟨⟨⟨⟨Nat.le_of_lt_succ w.isLt, hzone⟩, htarget⟩, hgate⟩, hlisting⟩, hthreshold⟩, hcount⟩, hchained⟩, hline⟩,
          hholdoff⟩
      have hchain : watchChainAgrees w a = true := by
        have hzero : (w.val == 0 && flagSet a.chained) = false := by
          rw [Bool.eq_false_iff, Ne, Bool.and_eq_true, beq_iff_eq, flagSet, beq_iff_eq]
          exact fun ⟨hw, hc⟩ => hfirst ⟨Fin.ext hw, hc⟩
        have hseven : (w.val == 7 && a.action == .stage) = false := by
          rw [Bool.eq_false_iff, Ne, Bool.and_eq_true, beq_iff_eq, beq_iff_eq]
          exact fun ⟨hw, hc⟩ => hlast ⟨Fin.ext hw, hc⟩
        rw [watchChainAgrees, hzero, hseven]
        rfl
      simp [inRange, agrees, hrange, hsub, hact, hchain]
    · simp only [toFin?_val, hsub, hact, hrecord, hends]
      have hremaining : y.remaining = a.count.getD 0 := by rw [hy]
      rw [hremaining]
      rfl
  case arm =>
    refine exec_of_effect (effect := watchArmEffect w) rfl ?_
    rw [watchArmEffect, toFin?_val]
    subst hy
    exact if_pos hconfigured
  case off =>
    obtain ⟨alerts, hends, halerts⟩ := endPulses_form ((s.taken (.watchOff tag w)).watchTo w .disabled) w
    refine ⟨alerts, halerts, exec_of_effect (effect := watchOffEffect w) rfl ?_⟩
    rw [watchOffEffect, toFin?_val]
    simp only [hends]
    rfl
  case read =>
    refine ⟨watchFields s, fun k y hy => ?_, ?_, ?_⟩
    · have hfields := watchFields_eq s k hy
      rw [hfields]
      refine ⟨by simp, by simp [flagVal, bit], by simp, by simp, by simp [flagVal, bit], fun hconfigured => ?_, rfl⟩
      exact ⟨fun f hf => by simp [hf, hconfigured], fun sub hsub => by simp [hsub, hconfigured]⟩
    · refine exec_of_effect (effect := watchReadEffect (some w)) rfl ?_
      rw [watchReadEffect, toFin?_val, ← alertField_eq]
      rfl
    · rw [← alertField_eq]
      rfl

end Sys2Proof.Machine

/-! # Proofs: the session requests (R127 to R133) -/

namespace Sys2Proof.Machine

open Sys2Proof.Safety

/-! ## The withdrawal, and the change of one session -/

/-- A withdrawal clears the pending id of its own session and nothing else of it (R49). -/
theorem withdraw_self {s : State} {n : Fin 48} {c : Screen} (hn : s.screens[n] = some c) :
    (s.withdraw n c.session).screens[n] = some { c with session := { c.session with
      pending := if c.session.state = .routePending then none else c.session.pending } } := by
  by_cases h : c.session.state = .routePending
  · have hself := (withdraw_sessions hn (by simp [h])).1
    rw [hself, Session.cleared, if_pos h, if_pos h]
  · rw [State.withdraw, if_neg h, if_neg h, hn]

theorem modifySession_eq {s : State} {n : Fin 48} {c : Screen} (hn : s.screens[n] = some c)
    (f : ScreenDecl → Session → Session) : s.modifySession n f
      = s.withScreens (s.screens.set n (some { c with session := f c.decl c.session })) := by
  rw [State.modifySession, modifyAt, hn]
  rfl

theorem withdraw_eq {s : State} {n : Fin 48} {c : Screen} (hn : s.screens[n] = some c) : s.withdraw n c.session =
    if c.session.state = .routePending then
      (s.withScreens (s.screens.set n (some { c with session := { c.session with pending := none } }))).endScreenEntry n
        .withdrawn
    else s := by
  rw [State.withdraw, modifySession_eq hn]
  rfl

/-! ## What a request makes of a session -/

/-- A change of a session that does not see its pending route. -/
def BlindToPending (f : Session → Session) : Prop :=
  ∀ (x : Session) (p : Option Nat), f { x with pending := p } = { f x with pending := p }

theorem blind_open (p : Page) : BlindToPending (Session.open p) := fun _ _ => rfl

theorem blind_goHome : BlindToPending Session.goHome := fun _ _ => rfl

theorem blind_setPrefs (l : Option Nat) (p : Option Profile) : BlindToPending (Session.setPrefs l p) := fun _ _ => rfl

theorem settleOnTop_withPending (x : Session) (p : Option Nat) :
    ({ x with pending := p } : Session).settleOnTop = { x.settleOnTop with pending := p } := by
  unfold Session.settleOnTop
  dsimp only
  cases x.stack with
  | nil => rfl
  | cons e rest =>
    dsimp only
    cases e.page <;> rfl

theorem blind_back (restore : Bool) : BlindToPending (Session.back restore) := by
  rintro ⟨st, lang, prof, stack, pending, shown, evac, idle⟩ p
  unfold Session.back
  cases stack with
  | nil =>
    dsimp only
    split
    · rfl
    · exact settleOnTop_withPending ⟨st, lang, prof, [], pending, shown, evac, idle⟩ p
  | cons e rest =>
    cases restore
    · exact settleOnTop_withPending ⟨st, lang, prof, rest, pending, shown, evac, idle⟩ p
    · exact settleOnTop_withPending ⟨st, e.language, e.profile, rest, pending, shown, evac, idle⟩ p

/-- Where a pop leads a session: to a ROUTE page's route, or to ACTIVE (R130). -/
theorem settleOnTop_eq {x : Session} {st : SessionState} {sh : Option Nat}
    (hroute : ∀ q more id, x.stack = q :: more → q.page = .route id → st = .routeShown ∧ sh = some id)
    (hother : (∀ q more id, x.stack = q :: more → q.page ≠ .route id) → st = .active ∧ sh = none) :
    x.settleOnTop = { x with state := st, shown := sh } := by
  have hactive : (∀ q more id, x.stack = q :: more → q.page ≠ .route id) →
      ({ x with state := .active, shown := none } : Session) = { x with state := st, shown := sh } := fun h => by
    obtain ⟨rfl, rfl⟩ := hother h
    rfl
  unfold Session.settleOnTop
  split
  · next hnil => exact hactive fun q more id hq => by simp [hnil] at hq
  · next q more hq =>
    split
    · next id hpage =>
      obtain ⟨rfl, rfl⟩ := hroute q more id hq hpage
      rfl
    all_goals
      next hpage =>
        refine hactive fun q' more' id hq' => ?_
        rw [hq] at hq'
        cases hq'
        simp [hpage]

/-- BACK and BACK-RESTORE, from what they leave of state and shown id (R130). -/
theorem back_eq {restore : Bool} {y x : Session}
    (hx : x = { y with
      state := x.state, stack := y.stack.drop 1, shown := x.shown
      language := if restore then ((y.stack.head?).map PageEntry.language).getD y.language else y.language
      profile := if restore then ((y.stack.head?).map PageEntry.profile).getD y.profile else y.profile })
    (hidle : y.stack = [] → y.state = .idle → x.state = .idle ∧ x.shown = y.shown)
    (hempty : y.stack = [] → y.state ≠ .idle → x.state = .active ∧ x.shown = none)
    (hpop : ∀ e rest, y.stack = e :: rest →
      (∀ q more id, rest = q :: more → q.page = .route id → x.state = .routeShown ∧ x.shown = some id)
      ∧ ((∀ q more id, rest = q :: more → q.page ≠ .route id) → x.state = .active ∧ x.shown = none)) :
    Session.back restore y = x := by
  obtain ⟨st, lang, prof, stack, pending, shown, evac, idle⟩ := y
  dsimp only at hx hidle hempty hpop
  rw [hx]
  generalize x.state = st' at *
  generalize x.shown = sh' at *
  cases stack with
  | nil =>
    unfold Session.back
    dsimp only
    split
    · next h =>
      obtain ⟨rfl, rfl⟩ := hidle rfl h
      cases restore <;> simp [h]
    · next h =>
      obtain ⟨rfl, rfl⟩ := hempty rfl h
      cases restore <;> rfl
  | cons e rest =>
    obtain ⟨hroute, hother⟩ := hpop e rest rfl
    cases restore
    · exact settleOnTop_eq (x := ⟨st, lang, prof, rest, pending, shown, evac, idle⟩) hroute hother
    · exact settleOnTop_eq (x := ⟨st, e.language, e.profile, rest, pending, shown, evac, idle⟩) hroute hother

/-! ## A request that is taken -/

/-- What a session request that passes its checks does: the withdrawal where its verb withdraws, the verb's change, the idle
timer restarted, and the reply (R128, R133). -/
theorem takeRequest_form {s : State} {n : Fin 48} {c : Screen} (hn : s.screens[n] = some c) (withdraws : Bool)
    (extras : ReplyExtras) {f : Session → Session} (hf : BlindToPending f) :
    ∃ v t : State,
      v = (if withdraws = true ∧ c.session.state = .routePending then
          (s.withScreens (s.screens.set n (some { c with session := { c.session with pending := none } }))).endScreenEntry n
            .withdrawn
        else s)
      ∧ t.screens = v.screens.set n (some { c with session :=
          { f c.session with pending := if withdraws = true ∧ c.session.state = .routePending then none else c.session.pending
                             idle := some ⟨c.decl.idleTimeout, 0⟩ } })
      ∧ t = v.withScreens t.screens
      ∧ takeRequest s n c withdraws extras f = (t, .ok (sessionFields t n c.decl
          { f c.session with pending := if withdraws = true ∧ c.session.state = .routePending then none else c.session.pending
                             idle := some ⟨c.decl.idleTimeout, 0⟩ }
          (if withdraws = true ∧ c.session.state = .routePending then c.session.pending else none) extras)) := by
  have hself : (if withdraws then s.withdraw n c.session else s).screens[n] = some { c with session := { c.session with
      pending := if withdraws = true ∧ c.session.state = .routePending then none else c.session.pending } } := by
    cases withdraws with
    | false => simpa using hn
    | true => simpa using withdraw_self hn
  have hv : (if withdraws then s.withdraw n c.session else s) = if withdraws = true ∧ c.session.state = .routePending then
      (s.withScreens (s.screens.set n (some { c with session := { c.session with pending := none } }))).endScreenEntry n
        .withdrawn else s := by
    cases withdraws with
    | false => simp
    | true => simp [withdraw_eq hn]
  have hid : (if withdraws then c.session.withdraws else none)
      = if withdraws = true ∧ c.session.state = .routePending then c.session.pending else none := by
    cases withdraws <;> simp [Session.withdraws]
  have htake : takeRequest s n c withdraws extras f = match ((if withdraws then s.withdraw n c.session else s).modifySession n
        fun d ses => (f ses).restartIdle d).screens[n] with
      | none => ((if withdraws then s.withdraw n c.session else s).modifySession n fun d ses => (f ses).restartIdle d, .ok [])
      | some c2 => ((if withdraws then s.withdraw n c.session else s).modifySession n fun d ses => (f ses).restartIdle d,
          .ok (sessionFields ((if withdraws then s.withdraw n c.session else s).modifySession n
            fun d ses => (f ses).restartIdle d) n c2.decl c2.session (if withdraws then c.session.withdraws else none) extras)) :=
    rfl
  rw [hid] at htake
  rw [hv] at hself htake
  generalize (if withdraws = true ∧ c.session.state = .routePending then
      (s.withScreens (s.screens.set n (some { c with session := { c.session with pending := none } }))).endScreenEntry n
        .withdrawn else s) = v at hself htake
  have hmove := modifySession_eq hself fun d ses => (f ses).restartIdle d
  dsimp only at hmove
  rw [hf] at hmove
  have hget : (v.modifySession n fun d ses => (f ses).restartIdle d).screens[n] = some { c with session :=
      { f c.session with pending := if withdraws = true ∧ c.session.state = .routePending then none else c.session.pending
                         idle := some ⟨c.decl.idleTimeout, 0⟩ } } := by
    rw [hmove]
    exact Vector.getElem_set_self ..
  rw [hget] at htake
  exact ⟨v, _, rfl, congrArg State.screens hmove, rfl, htake⟩

/-- A session request of a declared screen, its checks passed. -/
theorem sessionRequest_of_pass {screen : Nat} {n : Fin 48} {ranges agree listed : Bool} {s : State} {c : Screen}
    {act : Fin 48 → Screen → State × Answer} (hscreen : screen = n.val) (hn : s.screens[n] = some c)
    (hdormant : c.session.state ≠ .dormant) (halert : c.session.state ≠ .alert) (hranges : ranges = true)
    (hagree : agree = true) (hlisted : listed = true) : sessionRequest screen ranges agree listed s act = act n c := by
  subst hscreen hranges hagree hlisted
  rw [sessionRequest, toFin?_val]
  simp only [hn]
  exact checked_of_pass (by simp [sessionChecks, inRange, agrees, exists?, hdormant, halert])

end Sys2Proof.Machine

/-! # Proofs: session requests taken or refused (R127 to R133) -/

namespace Sys2Proof.Machine

open Sys2Proof.Safety

theorem navPage?_iff {a : NavArgs} {p : Page} : navPage? a = some p ↔
    (∃ k, a.page = .category ∧ a.category = some k ∧ a.listing = none ∧ a.text = none ∧ a.level = none ∧ p = .category k)
    ∨ (∃ k, a.page = .listing ∧ a.category = none ∧ a.listing = some k ∧ a.text = none ∧ a.level = none ∧ p = .listing k)
    ∨ (∃ t, a.page = .search ∧ a.category = none ∧ a.listing = none ∧ a.text = some t ∧ a.level = none ∧ p = .search t)
    ∨ ∃ l, a.page = .levelMap ∧ a.category = none ∧ a.listing = none ∧ a.text = none ∧ a.level = some l
      ∧ p = .levelMap l := by
  constructor
  · intro h
    unfold navPage? at h
    split at h
    · next hpage hc hl ht hlev => exact .inl ⟨_, hpage, hc, hl, ht, hlev, (Option.some.inj h).symm⟩
    · next hpage hc hl ht hlev => exact .inr (.inl ⟨_, hpage, hc, hl, ht, hlev, (Option.some.inj h).symm⟩)
    · next hpage hc hl ht hlev => exact .inr (.inr (.inl ⟨_, hpage, hc, hl, ht, hlev, (Option.some.inj h).symm⟩))
    · next hpage hc hl ht hlev => exact .inr (.inr (.inr ⟨_, hpage, hc, hl, ht, hlev, (Option.some.inj h).symm⟩))
    · cases h
  · rintro (⟨_, hpage, hc, hl, ht, hlev, rfl⟩ | ⟨_, hpage, hc, hl, ht, hlev, rfl⟩ | ⟨_, hpage, hc, hl, ht, hlev, rfl⟩
      | ⟨_, hpage, hc, hl, ht, hlev, rfl⟩) <;> simp only [navPage?, hpage, hc, hl, ht, hlev]

theorem navInRange_iff {a : NavArgs} : navInRange a = true ↔ (∀ k ∈ a.category, k ≤ 63) ∧ (∀ k ∈ a.listing, k ≤ 1023)
    ∧ (∀ t ∈ a.text, t.length ≤ 8) ∧ ∀ l ∈ a.level, -4 ≤ l ∧ l ≤ 11 := by
  simp only [navInRange, Bool.and_eq_true, optLe_iff, optAll_iff, decide_eq_true_eq, levelOk, and_assoc]

/-- The session requests and what each makes of its session, as the model's effects. -/
theorem session_exec {s : State} {tag : Nat} {n : Fin 48} {c : Screen} {i : Instr} {f : Session → Session} {withdraws : Bool}
    {extras : ReplyExtras} {effect : State → State × Answer} (hexec : exec i s = respond i tag s effect)
    (heffect : effect (s.taken i) = takeRequest (s.taken i) n c withdraws extras f) (hn : s.screens[n] = some c)
    (hf : BlindToPending f) {x : Session} (hx : f c.session = x) :
    ∃ v t : State,
      v = (if withdraws = true ∧ c.session.state = .routePending then
          ((s.taken i).withScreens (s.screens.set n (some { c with session := { c.session with pending := none } }))
            ).endScreenEntry n .withdrawn
        else s.taken i)
      ∧ t.screens = v.screens.set n (some { c with session :=
          { x with pending := if withdraws = true ∧ c.session.state = .routePending then none else c.session.pending
                   idle := some ⟨c.decl.idleTimeout, 0⟩ } })
      ∧ t = v.withScreens t.screens
      ∧ exec i s = .next (t.reply tag (.ok (sessionFields t n c.decl
          { x with pending := if withdraws = true ∧ c.session.state = .routePending then none else c.session.pending
                   idle := some ⟨c.decl.idleTimeout, 0⟩ }
          (if withdraws = true ∧ c.session.state = .routePending then c.session.pending else none) extras))) := by
  subst hx
  obtain ⟨v, t, hv, hscreens, ht, htake⟩ := takeRequest_form (s := s.taken i) hn withdraws extras hf
  exact ⟨v, t, hv, hscreens, ht, exec_of_effect hexec (heffect.trans htake)⟩

/-- Checks 1 to 7 of R127, whatever the verb's own three say. -/
theorem sessionRequest_refused {i : Instr} {tag screen : Nat} {s : State} {effect : State → State × Answer}
    {ranges agree listed : Prop} {ranges' agree' listed' : Bool} {act : Fin 48 → Screen → State × Answer}
    (hexec : exec i s = respond i tag s effect)
    (heffect : effect (s.taken i) = sessionRequest screen ranges' agree' listed' (s.taken i) act)
    (hranges : ranges' = true ↔ ranges) (hagree : agree' = true ↔ agree) (hlisted : listed' = true ↔ listed) :
    RefusedByFirst i tag s
      [(screen ≤ 47, .no .outOfRange),
       (∃ n : Fin 48, n.val = screen ∧ s.screens[n].isSome = true, .no .notFound),
       (∀ (n : Fin 48) (c : Screen), n.val = screen → s.screens[n] = some c → c.session.state ≠ .dormant,
        .no .wrongMode),
       (∀ (n : Fin 48) (c : Screen), n.val = screen → s.screens[n] = some c → c.session.state ≠ .alert,
        .no .evacActive),
       (ranges, .no .outOfRange), (agree, .no .conflict), (listed, .no .notFound)] := by
  intro y hy
  refine exec_of_effect hexec (heffect.trans ?_)
  rcases hy with ⟨hscreen, rfl⟩ | ⟨hscreen, hy⟩
  · rw [sessionRequest, toFin?_of_le (by omega)]
  rcases hy with ⟨hno, rfl⟩ | ⟨⟨n, rfl, hsome⟩, hy⟩
  · have hk : screen < 48 := by omega
    have hnone : s.screens[(⟨screen, hk⟩ : Fin 48)] = none := by
      by_contra h
      exact hno ⟨⟨screen, hk⟩, rfl, Option.isSome_iff_ne_none.mpr h⟩
    have hnone' : (s.taken i).screens[(⟨screen, hk⟩ : Fin 48)] = none := hnone
    rw [sessionRequest, toFin?_of_lt hk]
    simp only [hnone']
  · obtain ⟨c, hc⟩ := Option.isSome_iff_exists.mp hsome
    have hall : ∀ P : Screen → Prop, P c ↔ ∀ (m : Fin 48) (c' : Screen), m.val = n.val → s.screens[m] = some c' → P c' :=
      fun P => ⟨fun hp m c' hm hc' => by
        obtain rfl := Fin.ext hm
        rw [hc] at hc'
        cases hc'
        exact hp, fun h => h n c rfl hc⟩
    have hfail : firstFailing (sessionChecks c.session ranges' agree' listed') = some y := by
      refine firstFailing_cons (bne_iff_ne.trans (hall fun c => c.session.state ≠ .dormant)) (fun _ => ?_) hy
      refine firstFailing_cons (bne_iff_ne.trans (hall fun c => c.session.state ≠ .alert)) fun _ => ?_
      refine firstFailing_cons hranges fun _ => ?_
      refine firstFailing_cons hagree fun _ => ?_
      exact firstFailing_cons hlisted fun _ => False.elim
    have hc' : (s.taken i).screens[n] = some c := hc
    rw [sessionRequest, toFin?_val]
    simp only [hc', checked, hfail]

/-- Settles O52. -/
theorem sessionRequestsMoveTheSession : Obligations.SessionRequestsMoveTheSession := by
  refine ⟨fun s tag n c i x extras withdraws hn hdormant halert hcase hback => ?taken, fun s n d x withdrawn extras => ?fields,
    fun a p => navPage?_iff, fun s tag screen i ranges agree listed hcase => ?refused⟩
  case taken =>
    have hn' : (s.taken i).screens[n] = some c := hn
    rcases hcase with ⟨a, p, rfl, hpage, hcat, hlisting, htext, hlevel, rfl, rfl, hx⟩ | ⟨rfl, rfl, rfl, hx⟩
      | ⟨rfl, rfl, rfl, hx⟩ | ⟨rfl, rfl, rfl, hx⟩ | ⟨l, p, rfl, hl, hgiven, rfl, rfl, hx⟩ | ⟨rfl, rfl, rfl, hx⟩
    · refine session_exec (f := Session.open p) rfl (effect := navEffect n a) ?_ hn (blind_open p) hx.symm
      refine (sessionRequest_of_pass rfl hn' hdormant halert (navInRange_iff.mpr ⟨hcat, fun k hk => (hlisting k hk).1, htext,
        hlevel⟩) (Option.isSome_iff_exists.mpr ⟨p, hpage⟩) (optAll_iff.mpr fun k hk => (hlisting k hk).2)).trans ?_
      rw [hpage]
      rfl
    · obtain ⟨hidle, hempty, hpop⟩ := hback (.inl rfl)
      exact session_exec (f := Session.back false) rfl (effect := backEffect false n)
        (sessionRequest_of_pass rfl hn' hdormant halert rfl rfl rfl) hn (blind_back false) (back_eq hx hidle hempty hpop)
    · obtain ⟨hidle, hempty, hpop⟩ := hback (.inr rfl)
      exact session_exec (f := Session.back true) rfl (effect := backEffect true n)
        (sessionRequest_of_pass rfl hn' hdormant halert rfl rfl rfl) hn (blind_back true) (back_eq hx hidle hempty hpop)
    · exact session_exec (f := Session.goHome) rfl (effect := homeEffect n)
        (sessionRequest_of_pass rfl hn' hdormant halert rfl rfl rfl) hn blind_goHome hx.symm
    · exact session_exec (f := Session.setPrefs l p) rfl (effect := prefsEffect n l p)
        (sessionRequest_of_pass rfl hn' hdormant halert (optLe_iff.mpr hl) (by simpa using hgiven) rfl) hn
        (blind_setPrefs l p) hx.symm
    · exact session_exec (f := id) rfl (effect := tapEffect n)
        (sessionRequest_of_pass rfl hn' hdormant halert rfl rfl rfl) hn (fun _ _ => rfl) hx.symm
  case fields =>
    obtain ⟨st, lang, prof, stack, pending, shown, evac, idle⟩ := x
    have htop : topFields ⟨st, lang, prof, stack, pending, shown, evac, idle⟩ = match stack with
        | [] => [(.top, .word .home)]
        | e :: _ => match e.page with
          | .category k => [(.top, .word .category), (.topval, .num k)]
          | .listing k => [(.top, .word .listing), (.topval, .num k)]
          | .search t => [(.top, .word .search), (.topval, .text t)]
          | .levelMap l => [(.top, .word .levelMap), (.topval, .int l)]
          | .route id => [(.top, .word .route), (.topval, .num id)] := by
      cases stack with
      | nil => rfl
      | cons e _ => obtain ⟨page, _, _⟩ := e; cases page <;> rfl
    unfold sessionFields
    rw [htop]
    rfl
  case refused =>
    rcases hcase with ⟨a, rfl, rfl, rfl, rfl⟩ | ⟨h, rfl, rfl, rfl⟩ | ⟨l, q, rfl, rfl, rfl, rfl⟩
    · exact sessionRequest_refused (effect := navEffect screen a) rfl rfl navInRange_iff Option.isSome_iff_exists optAll_iff
    · have hyes : true = true ↔ True := by simp
      rcases h with rfl | rfl | rfl | rfl
      · exact sessionRequest_refused (effect := backEffect false screen) rfl rfl hyes hyes hyes
      · exact sessionRequest_refused (effect := backEffect true screen) rfl rfl hyes hyes hyes
      · exact sessionRequest_refused (effect := homeEffect screen) rfl rfl hyes hyes hyes
      · exact sessionRequest_refused (effect := tapEffect screen) rfl rfl hyes hyes hyes
    · exact sessionRequest_refused (effect := prefsEffect screen l q) rfl rfl optLe_iff (by simp) (by simp)

end Sys2Proof.Machine

/-! # Proofs: the idle timer's expiry and SCREEN-GET (R134, R140) -/

namespace Sys2Proof.Machine

open Sys2Proof.Safety

theorem idleTimerExpiry_of_stopped {s : State} {n : Fin 48} {c : Screen} (hn : s.screens[n] = some c)
    (hidle : c.session.idle = none) : exec (.idleTimerExpiry n) s = .next s := by
  show execIdleTimerExpiry n s = _
  rw [execIdleTimerExpiry]
  simp only [hn, hidle, Option.isSome_none, Bool.false_eq_true, if_false]

theorem idleTimerExpiry_of_runs {s : State} {n : Fin 48} {c : Screen} (hn : s.screens[n] = some c)
    (hidle : c.session.idle.isSome = true) :
    exec (.idleTimerExpiry n) s = .next ((s.withdraw n c.session).modifySession n Session.expire) := by
  show execIdleTimerExpiry n s = _
  rw [execIdleTimerExpiry]
  simp only [hn, hidle, if_true]

/-- The bounds of the time left of a running timer (R140). -/
theorem left_bounds (t : IdleTimer) (late : Bool) : 1 ≤ t.left late ∧ t.timeout - t.seconds ≤ t.left late
    ∧ t.left late ≤ max 1 (t.timeout - t.seconds + 1) ∧ (t.seconds = 0 → 1 ≤ t.timeout → t.left late = t.timeout) := by
  have hphase : (if 0 < t.seconds && late then 1 else 0) ≤ 1 ∧ (t.seconds = 0 → (if 0 < t.seconds && late then 1 else 0) = 0) := by
    refine ⟨by split <;> omega, fun h => ?_⟩
    simp [h]
  unfold IdleTimer.left
  generalize (if 0 < t.seconds && late then 1 else 0) = phase at hphase
  omega

theorem screenGet_exec {s : State} {tag : Nat} {n : Fin 48} {c : Screen} (hn : s.screens[n] = some c) :
    exec (.screenGet tag n) s = .next (({ s.taken (.screenGet tag n) with
        free := if c.session.idle.isSome then s.free + 1 else s.free } : State).reply tag
      (.okLines (screenGetFields s n c) (c.session.stack.map entryLine))) := by
  refine exec_of_effect (effect := screenGetEffect n) rfl ?_
  have hn' : (s.taken (.screenGet tag n)).screens[n] = some c := hn
  rw [screenGetEffect, toFin?_val]
  simp only [hn']
  cases c.session.idle <;> rfl

/-- Settles O53. -/
theorem idleExpiryAndScreenGet : Obligations.IdleExpiryAndScreenGet := by
  refine ⟨fun ⟨page, lang, prof⟩ => by cases page <;> cases prof <;> rfl, fun s tag n =>
    ⟨fun hn => ⟨?absent, ?notFound⟩, fun k hk => ?range, fun c hn hidle => idleTimerExpiry_of_stopped hn hidle,
     fun c hn hidle => ?expires, fun c hn => ?get⟩⟩
  case absent =>
    show execIdleTimerExpiry n s = _
    rw [execIdleTimerExpiry]
    simp only [hn]
  case notFound =>
    refine exec_of_effect (effect := screenGetEffect n) rfl ?_
    have hn' : (s.taken (.screenGet tag n)).screens[n] = none := hn
    rw [screenGetEffect, toFin?_val]
    simp only [hn']
  case range =>
    refine exec_of_effect (effect := screenGetEffect k) rfl ?_
    rw [screenGetEffect, toFin?_of_le (by omega)]
  case expires =>
    refine ⟨s.withdraw n c.session, _, idleTimerExpiry_of_runs hn hidle, withdraw_eq hn, ?_, ?_⟩
    · exact congrArg State.screens (modifySession_eq (withdraw_self hn) Session.expire)
    · rfl
  case get =>
    refine ⟨idleVal (Config.idlePhaseLate s.free) c.session.idle, screenGetFields s n c, screenGet_exec hn, ?_, ?_, ?_⟩
    · intro h
      rw [h]
      rfl
    · intro timer h
      rw [h]
      exact ⟨_, rfl, left_bounds timer _⟩
    · rfl

end Sys2Proof.Machine

/-! # Proofs: the day clock (R153 to R156) and the timebase second (R133, R157, R158) -/

namespace Sys2Proof.Machine

open Sys2Proof.Safety

/-! ## Opening hours (R155) -/

theorem openToday_iff {e : DayEntry} {t : Nat} :
    openToday e t = true ↔ ∃ o c, e = .window o c ∧ (o < c ∧ o ≤ t ∧ t < c ∨ c < o ∧ o ≤ t) := by
  cases e with
  | closed => simp [openToday]
  | window o c => simp [openToday, and_assoc]

theorem openFromYesterday_iff {e : DayEntry} {t : Nat} :
    openFromYesterday e t = true ↔ ∃ o c, e = .window o c ∧ c < o ∧ t < c := by
  cases e with
  | closed => simp [openFromYesterday]
  | window o c => simp [openFromYesterday]

/-! ## The clock's requests -/

theorem clock_exec {s : State} {tag : Nat} {now : DayTime} {second : Option Nat} (hminute : now.minute ≤ 1439)
    (hsecond : ∀ x ∈ second, x ≤ 59) (hnow : now.second = second.getD 0) :
    exec (.clock tag now.weekday now.minute second) s
      = .next (((s.taken (.clock tag now.weekday now.minute second)).minuteBoundary now true).reply tag (.ok
          [(.weekday, .num now.weekday), (.minute, .num now.minute), (.second, .num now.second),
           (.changed, .num (changedCount s.clock.clock.isSome now.weekday now.minute s.map.listings)),
           genField ((s.taken (.clock tag now.weekday now.minute second)).minuteBoundary now true)])) := by
  obtain ⟨d, m, sec⟩ := now
  subst hnow
  refine exec_of_effect (effect := clockEffect d m second) rfl ?_
  rw [clockEffect, checked_of_pass (by simp [inRange, optLe_iff.mpr hsecond, hminute]), toFin?_val]
  rfl

theorem clockRead_exec (s : State) (tag : Nat) : exec (.clockRead tag) s = .next ((s.taken (.clockRead tag)).reply tag
    (.ok (match s.clock.clock with
      | none => [(.clock, .word .isUnset)]
      | some c => [(.clock, .word .isSet), (.weekday, .num c.weekday), (.minute, .num c.minute),
                   (.second, .num c.second)]))) := by
  refine exec_of_effect (effect := clockReadEffect) rfl ?_
  rw [clockReadEffect, State.taken_clock]
  cases s.clock.clock <;> rfl

/-! ## A second of the timebase -/

/-- With no expiry due, none is taken before the second. -/
theorem takeExpiries_of_none_due {s : State} (h : ∀ k : Fin 8, s.clock.timers[k].due = false) :
    (List.finRange 8).foldl State.takeExpiry s = s := by
  induction List.finRange 8 with
  | nil => rfl
  | cons k rest ih =>
    have hk : s.takeExpiry k = s := by rw [State.takeExpiry, h k]; rfl
    rw [List.foldl_cons, hk, ih]

theorem advanceClock_of_unset {s : State} (h : s.clock.clock = none) : s.advanceClock = s := by
  rw [State.advanceClock, h]

theorem advanceClock_of_set {s : State} {c : DayTime} (h : s.clock.clock = some c) :
    s.advanceClock = if c.second < 59 then s.withClock { s.clock with clock := some { c with second := c.second + 1 } }
      else s.minuteBoundary c.next false := by
  rw [State.advanceClock, h]
  dsimp only
  by_cases hlt : c.second < 59 <;> simp [DayTime.endsMinute, DayTime.next, hlt]

theorem advanceClock_same (s : State) : s.advanceClock.map.mode = s.map.mode ∧ s.advanceClock.evac.state = s.evac.state
    ∧ s.advanceClock.clock.timers = s.clock.timers :=
  have h := Changes.advanceClock s
  ⟨h.same .mode rfl, h.same .evacState rfl, h.same .timers rfl⟩

theorem countTimers_form (s : State) : ∃ w : Vector CadenceTimer 8,
    s.countTimers = s.withClock { s.clock with timers := w }
      ∧ ∀ k : Fin 8, w[k] = if s.map.mode = .service ∧ s.evac.state ≠ .active ∧ s.clock.timers[k].state = .run then
          s.clock.timers[k].count1 else s.clock.timers[k] := by
  by_cases h : s.map.mode = .service ∧ s.evac.state ≠ .active
  · have hruns : (s.inService && !s.evacActive) = true := by simp [State.inService, State.evacActive, h]
    rw [State.countTimers, if_pos hruns]
    refine ⟨_, rfl, fun k => ?_⟩
    rw [mapFin_get]
    by_cases hk : s.clock.timers[k].state = .run
    · rw [if_pos hk, if_pos ⟨h.1, h.2, hk⟩]
    · rw [if_neg hk, if_neg fun ⟨_, _, hrun⟩ => hk hrun]
  · have hruns : ¬ (s.inService && !s.evacActive) = true := by simpa [State.inService, State.evacActive] using h
    rw [State.countTimers, if_neg hruns]
    exact ⟨s.clock.timers, rfl, fun k => (if_neg fun ⟨hm, he, _⟩ => h ⟨hm, he⟩).symm⟩

theorem second_exec {s : State} (h : ∀ k : Fin 8, s.clock.timers[k].due = false) :
    exec .timebaseSecond s = .next s.advanceClock.countTimers.countIdle := by
  show execTimebaseSecond s = _
  rw [execTimebaseSecond, takeExpiries_of_none_due h]

theorem second_form {s : State} (h : ∀ k : Fin 8, s.clock.timers[k].due = false) : ∃ t : State,
    exec .timebaseSecond s = .next t
    ∧ (∀ (k : Fin 8) (x : CadenceTimer), x = s.clock.timers[k] → t.clock.timers[k] =
        if s.map.mode = .service ∧ s.evac.state ≠ .active ∧ x.state = .run then
          if x.count + 1 < x.period then { x with count := x.count + 1 } else { x with due := true }
        else x)
    ∧ (∀ n : Fin 48, t.screens[n] = (s.advanceClock.screens[n]).map fun c => { c with session := { c.session with
        idle := c.session.idle.map fun i => { i with seconds := min i.timeout (i.seconds + 1) } } })
    ∧ t = (s.advanceClock.withClock { s.advanceClock.clock with timers := t.clock.timers }).withScreens t.screens := by
  obtain ⟨hmode, hevac, htimers⟩ := advanceClock_same s
  obtain ⟨w, hcount, hw⟩ := countTimers_form s.advanceClock
  obtain ⟨v, hidle, hv⟩ := mapSessions_form s.advanceClock.countTimers
    fun _ ses => { ses with idle := ses.idle.map IdleTimer.second }
  refine ⟨_, (second_exec h).trans (congrArg _ hidle), fun k x hx => ?_, fun n => ?_, ?_⟩
  · subst hx
    rw [hmode, hevac, htimers] at hw
    rw [hcount]
    exact hw k
  · rw [hcount] at hv
    exact hv n
  · rw [hcount]
    rfl

/-- Settles O56. -/
theorem clockSetsAndAdvances : Obligations.ClockSetsAndAdvances := by
  refine ⟨fun week d t => ?opening, fun s now byClock => ?boundary, fun s => ⟨clockRead_exec s, fun hdue => ?second⟩⟩
  case opening =>
    rw [openAt, Bool.or_eq_true, openToday_iff, openFromYesterday_iff]
    rfl
  case boundary =>
    refine ⟨_, _, _, rfl, rfl, rfl, rfl, fun tag second hclock hminute hsecond hnow => ?_⟩
    exact ⟨_, rfl, clock_exec hminute hsecond hnow⟩
  case second =>
    obtain ⟨t, hexec, htimers, hscreens, ht⟩ := second_form hdue
    refine ⟨s.advanceClock, t, hexec, advanceClock_of_unset, fun c hc hlt => ?_, fun c hc hge hm => ?_,
      fun c hc hge hm => ?_, htimers, hscreens, ht⟩
    · rw [advanceClock_of_set hc, if_pos hlt]
    · rw [advanceClock_of_set hc, if_neg (by omega), DayTime.next, if_neg (by omega), if_pos hm]
    · rw [advanceClock_of_set hc, if_neg (by omega), DayTime.next, if_neg (by omega), if_neg (by omega)]

end Sys2Proof.Machine

/-! # Proofs: the cadence timers' requests (R157, R161, R162) -/

namespace Sys2Proof.Machine

open Sys2Proof.Safety

theorem otherMaster_iff {s : State} {k : Fin 8} :
    s.otherMaster k = true ↔ ∃ j : Fin 8, j ≠ k ∧ s.clock.timers[j].role = .master := by
  simp [State.otherMaster]

theorem flagVal_clamped (period : Option Nat) :
    flagVal (!optWithin 5 600 period) = .num (if ∃ p ∈ period, p < 5 ∨ 600 < p then 1 else 0) := by
  have h : (!optWithin 5 600 period) = true ↔ ∃ p ∈ period, p < 5 ∨ 600 < p := by
    rw [Bool.not_eq_true', ← Bool.not_eq_true, optWithin_iff]
    push Not
    simp only [← not_le, ← not_and_or]
    exact ⟨fun ⟨p, hp, h⟩ => ⟨p, hp, fun hle => by omega⟩, fun ⟨p, hp, h⟩ => ⟨p, hp, fun hge => by omega⟩⟩
  by_cases hc : ∃ p ∈ period, p < 5 ∨ 600 < p
  · rw [if_pos hc, h.mpr hc]
    rfl
  · rw [if_neg hc, Bool.eq_false_iff.mpr (mt h.mp hc)]
    rfl

theorem cadence_exec {s : State} {tag : Nat} {k : Fin 8} {x : CadenceTimer} {a : CadenceArgs} (hx : x = s.clock.timers[k])
    (hpages : ∀ n ∈ a.pages, 1 ≤ n ∧ n ≤ 16)
    (hone : a.role = some .master → ∀ j : Fin 8, j ≠ k → s.clock.timers[j].role ≠ .master) :
    exec (.cadence tag k a) s = .next (((s.taken (.cadence tag k a)).withClock { s.clock with
        timers := s.clock.timers.set k (x.configure a) }).reply tag
      (.ok (timerFields k (x.configure a) ++ [(.clamped, .num (if ∃ p ∈ a.period, p < 5 ∨ 600 < p then 1 else 0))]))) := by
  have hagree : (!(a.role == some .master && (s.taken (.cadence tag k a)).otherMaster k)) = true := by
    rw [Bool.not_eq_true', ← Bool.not_eq_true, Bool.and_eq_true, beq_iff_eq, otherMaster_iff]
    rintro ⟨hrole, j, hj, hmaster⟩
    exact hone hrole j hj hmaster
  refine exec_of_effect (effect := cadenceEffect k a) rfl ?_
  rw [cadenceEffect, toFin?_val]
  dsimp only
  rw [checked_of_pass (by simp [inRange, agrees, optWithin_iff.mpr hpages, hagree]), ← flagVal_clamped, hx]
  rfl

theorem cadence_conflict {s : State} {tag : Nat} {k j : Fin 8} {a : CadenceArgs} (hpages : ∀ n ∈ a.pages, 1 ≤ n ∧ n ≤ 16)
    (hrole : a.role = some .master) (hj : j ≠ k) (hmaster : s.clock.timers[j].role = .master) :
    exec (.cadence tag k a) s = .next ((s.taken (.cadence tag k a)).reply tag (.no .conflict)) := by
  have hother : (s.taken (.cadence tag k a)).otherMaster k = true := otherMaster_iff.mpr ⟨j, hj, hmaster⟩
  refine exec_of_effect (effect := cadenceEffect k a) rfl ?_
  rw [cadenceEffect, toFin?_val]
  simp [checked, firstFailing, inRange, agrees, optWithin_iff.mpr hpages, hother, hrole]

theorem cadenceRead_exec {s : State} {tag : Nat} {k : Fin 8} {x : CadenceTimer} (hx : x = s.clock.timers[k]) :
    exec (.cadenceRead tag k) s = .next ((s.taken (.cadenceRead tag k)).reply tag (.ok (timerFields k x))) := by
  refine exec_of_effect (effect := cadenceReadEffect k) rfl ?_
  rw [cadenceReadEffect, toFin?_val, hx]
  rfl

theorem runFrom_eq (x : CadenceTimer) (s : State) (restart : Option Nat) :
    x.runFrom s.inService (flagSet restart) = { x with
      setting := .run, state := if s.map.mode = .service then .run else x.state
      count := if restart = some 1 then 0 else x.count, page := if restart = some 1 then 0 else x.page
      due := if restart = some 1 then false else x.due } := by
  have hserv : s.inService = decide (s.map.mode = .service) := by simp [State.inService, Bool.beq_eq_decide_eq]
  have hflag : flagSet restart = decide (restart = some 1) := by simp [flagSet, Bool.beq_eq_decide_eq]
  rw [hserv, hflag]
  by_cases hr : restart = some 1 <;> simp [CadenceTimer.runFrom, hr]

theorem cadenceRun_exec {s : State} {tag : Nat} {k : Fin 8} {x : CadenceTimer} {restart : Option Nat}
    (hx : x = s.clock.timers[k]) (hrestart : ∀ n ∈ restart, n ≤ 1) :
    exec (.cadenceRun tag k restart) s = .next (((s.taken (.cadenceRun tag k restart)).withClock { s.clock with
        timers := s.clock.timers.set k (x.runFrom s.inService (flagSet restart)) }).reply tag
      (runAnswer k (x.runFrom s.inService (flagSet restart)))) := by
  refine exec_of_effect (effect := cadenceRunEffect k restart) rfl ?_
  rw [cadenceRunEffect, checked_of_pass (by simp [inRange, optLe_iff.mpr hrestart]), toFin?_val, hx]
  rfl

theorem cadenceHalt_exec {s : State} {tag : Nat} {k : Fin 8} {x : CadenceTimer} (hx : x = s.clock.timers[k]) :
    exec (.cadenceHalt tag k) s = .next (((s.taken (.cadenceHalt tag k)).withClock { s.clock with
        timers := s.clock.timers.set k x.haltByHost }).reply tag (runAnswer k x.haltByHost)) := by
  refine exec_of_effect (effect := cadenceHaltEffect k) rfl ?_
  rw [cadenceHaltEffect, toFin?_val, hx]
  rfl

/-- Settles O57. -/
theorem cadenceConfiguredRunAndHalted : Obligations.CadenceConfiguredRunAndHalted := by
  refine ⟨fun i ⟨_, _, mode, role, setting, state, _, _, _⟩ => ?fields, fun s tag k x hx =>
    ⟨fun a y hpages hy => ⟨fun hone => ?stored, fun j hrole hj hmaster => cadence_conflict hpages hrole hj hmaster⟩,
     cadenceRead_exec hx, fun restart y hrestart hy => ?run, cadenceHalt_exec hx⟩⟩
  case fields => cases mode <;> cases role <;> cases setting <;> cases state <;> rfl
  case stored =>
    rw [hy]
    exact cadence_exec hx hpages hone
  case run =>
    have hrun := cadenceRun_exec (tag := tag) hx hrestart
    rw [runFrom_eq, ← hy] at hrun
    rw [hrun, hy]
    rfl

end Sys2Proof.Machine

/-! # Proofs: a cadence period's expiry (R158, R159) -/

namespace Sys2Proof.Machine

open Sys2Proof.Safety

theorem modifyTimer_get (s : State) (k j : Fin 8) (f : CadenceTimer → CadenceTimer) :
    (s.modifyTimer k f).clock.timers[j] = if j = k then f s.clock.timers[j] else s.clock.timers[j] := by
  refine (modifyAt_get ..).trans ?_
  by_cases h : k = j
  · rw [if_pos h, if_pos h.symm]
  · rw [if_neg h, if_neg (Ne.symm h)]

/-- The resynchronisation of one timer, with its notice (R159). -/
def State.resyncOne (page : Nat) (s : State) (k : Fin 8) : State :=
  if s.clock.timers[k].follows then
    (s.modifyTimer k (CadenceTimer.resync page)).post (.cadence k (page % s.clock.timers[k].pages) true false)
  else s

theorem resyncOne_timers (page : Nat) (s : State) (k j : Fin 8) :
    (s.resyncOne page k).clock.timers[j] = if j = k then s.clock.timers[j].resync page else s.clock.timers[j] := by
  by_cases hk : s.clock.timers[k].follows = true
  · rw [State.resyncOne, if_pos hk]
    exact modifyTimer_get ..
  · rw [State.resyncOne, if_neg hk]
    split
    · next h =>
      subst h
      rw [CadenceTimer.resync, if_neg hk]
    · rfl

theorem resyncOne_port (page : Nat) (s : State) (k : Fin 8) : (s.resyncOne page k).port =
    if s.clock.timers[k].follows then s.port.post (.cadence k (page % s.clock.timers[k].pages) true false) else s.port := by
  unfold State.resyncOne
  split <;> rfl

theorem resyncOne_frame (page : Nat) (s : State) (k : Fin 8) : s.resyncOne page k
    = (s.withClock { s.clock with timers := (s.resyncOne page k).clock.timers }).withPort (s.resyncOne page k).port := by
  unfold State.resyncOne
  split <;> rfl

/-- Timers resynchronised one after another, each once: none sees what another's turn did (R159). -/
theorem resyncAll_form (page : Nat) {l : List (Fin 8)} (hl : l.Nodup) (s : State) :
    (∀ j : Fin 8, (l.foldl (State.resyncOne page) s).clock.timers[j]
        = if j ∈ l then s.clock.timers[j].resync page else s.clock.timers[j])
    ∧ (l.foldl (State.resyncOne page) s).port = (l.filter fun j => s.clock.timers[j].follows).foldl
        (fun p (j : Fin 8) => p.post (.cadence j (page % s.clock.timers[j].pages) true false)) s.port
    ∧ l.foldl (State.resyncOne page) s
        = (s.withClock { s.clock with timers := (l.foldl (State.resyncOne page) s).clock.timers }).withPort
            (l.foldl (State.resyncOne page) s).port := by
  induction l generalizing s with
  | nil => exact ⟨fun _ => rfl, rfl, rfl⟩
  | cons k l ih =>
    obtain ⟨hk, hl⟩ := List.nodup_cons.mp hl
    obtain ⟨htimers, hport, hframe⟩ := ih hl (s.resyncOne page k)
    have hlater : ∀ j ∈ l, (s.resyncOne page k).clock.timers[j] = s.clock.timers[j] := fun j hj => by
      rw [resyncOne_timers, if_neg]
      rintro rfl
      exact hk hj
    rw [List.foldl_cons]
    refine ⟨fun j => ?_, ?_, ?_⟩
    · rw [htimers]
      by_cases hj : j ∈ l
      · rw [if_pos hj, if_pos (List.mem_cons_of_mem k hj), hlater j hj]
      · rw [if_neg hj, resyncOne_timers]
        simp [hj]
    · have hfilter : (l.filter fun j => (s.resyncOne page k).clock.timers[j].follows)
          = l.filter fun j => s.clock.timers[j].follows := List.filter_congr fun j hj => by rw [hlater j hj]
      rw [hport, hfilter, resyncOne_port, List.filter_cons]
      have hfold : ∀ p : Port, (l.filter fun j => s.clock.timers[j].follows).foldl (fun p (j : Fin 8) =>
            p.post (.cadence j (page % (s.resyncOne page k).clock.timers[j].pages) true false)) p
          = (l.filter fun j => s.clock.timers[j].follows).foldl (fun p (j : Fin 8) =>
            p.post (.cadence j (page % s.clock.timers[j].pages) true false)) p := fun p =>
        List.foldl_ext _ _ _ fun q j hj => by rw [hlater j (List.mem_of_mem_filter hj)]
      rw [hfold]
      split <;> rfl
    · rw [hframe, resyncOne_frame]
      rfl

theorem not_follows_of_master {t : CadenceTimer} (h : t.role = .master) : t.follows = false := by
  simp [CadenceTimer.follows, h]

theorem ends_iff {t : CadenceTimer} : t.ends = true ↔ t.mode = .once ∧ t.pages ≤ t.page + 1 := by
  simp [CadenceTimer.ends]

theorem stepPage_eq (t : CadenceTimer) : t.stepPage = if t.mode = .once ∧ t.pages ≤ t.page + 1 then
    { t with count := 0, due := false, setting := .halt, state := .halt }
    else { t with count := 0, due := false, page := (t.page + 1) % t.pages } := by
  rw [CadenceTimer.stepPage]
  exact if_congr ends_iff rfl rfl

/-- A timer's period expires: its own step and notice, then its followers' (R158, R159). -/
theorem expirePeriod_form {s : State} {k : Fin 8} {x : CadenceTimer} (hx : x = s.clock.timers[k]) :
    ∃ followers : List (Fin 8),
      followers = (List.finRange 8).filter (fun j => decide (x.role = .master) && s.clock.timers[j].follows)
      ∧ (∀ j : Fin 8, (s.expirePeriod k).clock.timers[j] = if j = k then x.stepPage
          else if j ∈ followers then s.clock.timers[j].resync x.stepPage.page else s.clock.timers[j])
      ∧ (s.expirePeriod k).port = followers.foldl
          (fun p (j : Fin 8) => p.post (.cadence j (x.stepPage.page % s.clock.timers[j].pages) true false))
          (s.port.post (.cadence k x.stepPage.page false x.ends))
      ∧ s.expirePeriod k
          = (s.withClock { s.clock with timers := (s.expirePeriod k).clock.timers }).withPort (s.expirePeriod k).port := by
  subst hx
  have hexpire : s.expirePeriod k = if s.clock.timers[k].role = .master then
      (List.finRange 8).foldl (State.resyncOne s.clock.timers[k].stepPage.page)
        ((s.modifyTimer k CadenceTimer.stepPage).post
          (.cadence k s.clock.timers[k].stepPage.page false s.clock.timers[k].ends))
      else (s.modifyTimer k CadenceTimer.stepPage).post
        (.cadence k s.clock.timers[k].stepPage.page false s.clock.timers[k].ends) := rfl
  by_cases hmaster : s.clock.timers[k].role = .master
  · rw [if_pos hmaster] at hexpire
    have hget : ∀ j : Fin 8, ((s.modifyTimer k CadenceTimer.stepPage).post (.cadence k s.clock.timers[k].stepPage.page
        false s.clock.timers[k].ends)).clock.timers[j]
          = if j = k then s.clock.timers[j].stepPage else s.clock.timers[j] := fun j => modifyTimer_get ..
    generalize hs1 : (s.modifyTimer k CadenceTimer.stepPage).post (.cadence k s.clock.timers[k].stepPage.page
        false s.clock.timers[k].ends) = s1 at hexpire hget
    have hself : s.clock.timers[k].follows = false ∧ s1.clock.timers[k].follows = false := by
      refine ⟨not_follows_of_master hmaster, ?_⟩
      rw [hget, if_pos rfl]
      exact not_follows_of_master ((CadenceTimer.stepPage_role _).trans hmaster)
    have hother : ∀ j : Fin 8, j ≠ k → s1.clock.timers[j] = s.clock.timers[j] := fun j hj => by rw [hget, if_neg hj]
    have hfollows : ∀ j : Fin 8, s1.clock.timers[j].follows = s.clock.timers[j].follows := fun j => by
      by_cases hj : j = k
      · rw [hj, hself.1, hself.2]
      · rw [hother j hj]
    obtain ⟨htimers, hport, hframe⟩ :=
      resyncAll_form s.clock.timers[k].stepPage.page (List.nodup_finRange 8) s1
    rw [← hexpire] at htimers hport hframe
    refine ⟨_, rfl, fun j => ?_, ?_, ?_⟩
    · rw [htimers, if_pos (List.mem_finRange j)]
      by_cases hj : j = k
      · rw [if_pos hj, hj, CadenceTimer.resync, hself.2, hget, if_pos rfl]
        rfl
      · rw [if_neg hj, hother j hj]
        by_cases hf : s.clock.timers[j].follows = true
        · rw [if_pos (List.mem_filter.mpr ⟨List.mem_finRange j, by simp only [hf, hmaster]; rfl⟩)]
        · rw [CadenceTimer.resync, if_neg hf, ite_self]
    · rw [hport]
      simp only [hfollows, hmaster, decide_true, Bool.true_and]
      have hp : s1.port = s.port.post (.cadence k s.clock.timers[k].stepPage.page false s.clock.timers[k].ends) := by
        rw [← hs1]
        rfl
      rw [hp]
      refine List.foldl_ext _ _ _ fun q j hj => ?_
      have hne : j ≠ k := by
        rintro rfl
        exact absurd (List.of_mem_filter hj) (by simp only [hself.1, Bool.false_eq_true, not_false_eq_true])
      rw [hother j hne]
    · rw [hframe, ← hs1]
      rfl
  · rw [if_neg hmaster] at hexpire
    have hnone : (List.finRange 8).filter (fun j => decide (s.clock.timers[k].role = .master) && s.clock.timers[j].follows)
        = [] := by
      simp only [hmaster, decide_false, Bool.false_and, List.filter_false]
    rw [hexpire]
    refine ⟨_, rfl, fun j => ?_, ?_, rfl⟩
    · rw [hnone, if_neg (List.not_mem_nil)]
      refine (modifyTimer_get ..).trans ?_
      by_cases hj : j = k
      · rw [if_pos hj, if_pos hj, hj]
      · rw [if_neg hj, if_neg hj]
    · rw [hnone]
      rfl

/-- Settles O58. -/
theorem periodExpiryStepsThePage : Obligations.PeriodExpiryStepsThePage := by
  intro s k x y hx
  have hexec : exec (.cadencePeriodExpiry k) s = .next (if s.clock.timers[k].due then s.expirePeriod k else s) := rfl
  rw [← hx] at hexec
  refine ⟨fun hdue => by rw [hexec, hdue]; rfl, fun hdue hy => ?_⟩
  rw [hdue, if_pos rfl] at hexec
  rw [← stepPage_eq] at hy
  obtain ⟨followers, hfollowers, htimers, hport, hframe⟩ := expirePeriod_form hx
  refine ⟨followers, _, hexec, hfollowers, fun j => ?_, ?_, hframe⟩
  · rw [htimers, hy]
    split
    · rfl
    · split
      · next hj =>
        rw [hfollowers, List.mem_filter, Bool.and_eq_true] at hj
        rw [CadenceTimer.resync, if_pos hj.2.2]
      · rfl
  · have hends : x.ends = decide (x.mode = .once ∧ x.pages ≤ x.page + 1) := by
      rw [Bool.eq_iff_iff, ends_iff, decide_eq_true_eq]
    rw [hport, hy, hends]

end Sys2Proof.Machine

/-! # Proofs: lines at the host port (R163 to R165) -/

namespace Sys2Proof.Machine

open Sys2Proof.Safety

theorem assemble_eq (p : Port) (c : RxChar) : p.assemble c = { p with rx := if p.dropping then p.rx else p.rx ++ [c] } := by
  unfold Port.assemble
  split <;> rfl

theorem assembling_iff {p : Port} : p.assembling = true ↔ p.rx ≠ [] ∧ p.dropping = false := by
  simp [Port.assembling]

theorem assemblyTimerExpiry_exec (s : State) :
    exec .assemblyTimerExpiry s = .next (if s.port.assembling then s.withPort s.port.discard else s) := rfl

theorem lineEnd_exec {c : Instr} (h : c = .lineComplete ∨ c = .characterReceived 10 false) (s : State) :
    exec c s = .next (s.withPort s.port.endLine) := by
  rcases h with rfl | rfl <;> rfl

/-- The line that an LF ends: without the undamaged CR before it (R163). -/
theorem lineOf_eq {rx line : List RxChar}
    (h : rx = line ++ [⟨13, false⟩] ∨ rx = line ∧ line.getLast? ≠ some ⟨13, false⟩) : lineOf rx = line := by
  rcases h with rfl | ⟨rfl, hlast⟩
  · rw [lineOf, if_pos (by simp), List.dropLast_concat]
  · rw [lineOf, if_neg hlast]

theorem good_iff {c : RxChar} : c.good = true ↔ c.damaged = false ∧ 32 ≤ c.code.toNat ∧ c.code.toNat ≤ 126 := by
  simp [RxChar.good, within]

theorem endLine_of_assembled {p : Port} {line : List RxChar} (hdrop : p.dropping = false) (hline : lineOf p.rx = line) :
    p.endLine = { p with rx := [] }.judge line := by
  rw [Port.endLine, hdrop, hline]
  rfl

theorem judge_of_empty (p : Port) : p.judge [] = p := rfl

theorem judge_of_bad {p : Port} {line : List RxChar}
    (h : 1024 < line.length ∨ ∃ x ∈ line, x.damaged = true ∨ x.code.toNat < 32 ∨ 126 < x.code.toNat) :
    p.judge line = p.countFrame := by
  have hne : line.isEmpty = false := by
    rw [List.isEmpty_eq_false_iff]
    rintro rfl
    rcases h with h | ⟨x, hx, _⟩
    · exact absurd h (by simp)
    · exact absurd hx List.not_mem_nil
  have hbad : ¬ (decide (line.length ≤ 1024) && line.all RxChar.good) = true := by
    rw [Bool.and_eq_true, decide_eq_true_eq, List.all_eq_true]
    rintro ⟨hlen, hall⟩
    rcases h with h | ⟨x, hx, hx'⟩
    · omega
    · obtain ⟨hdamaged, hlo, hhi⟩ := good_iff.mp (hall x hx)
      rcases hx' with hx' | hx' | hx'
      · rw [hdamaged] at hx'; cases hx'
      · omega
      · omega
  rw [Port.judge, hne, if_neg Bool.false_ne_true, if_neg hbad]

theorem judge_of_good {p : Port} {line : List RxChar} (hne : line ≠ []) (hlen : line.length ≤ 1024)
    (hall : ∀ x ∈ line, x.damaged = false ∧ 32 ≤ x.code.toNat ∧ x.code.toNat ≤ 126) :
    p.judge line = p.arrive (line.map RxChar.code) := by
  have hgood : (decide (line.length ≤ 1024) && line.all RxChar.good) = true := by
    rw [Bool.and_eq_true, decide_eq_true_eq, List.all_eq_true]
    exact ⟨hlen, fun x hx => good_iff.mpr (hall x hx)⟩
  rw [Port.judge, List.isEmpty_eq_false_iff.mpr hne, if_neg Bool.false_ne_true, if_pos hgood]

theorem arrive_of_free {p : Port} (hhand : p.hand = none) (hinput : p.input = []) (line : Text) :
    p.arrive line = { p with hand := some line } := by
  obtain ⟨_, _, hand, input, _, _, _, _, _⟩ := p
  dsimp only at hhand hinput
  subst hhand hinput
  rfl

theorem arrive_of_room {p : Port} (hhand : p.hand.isSome = true) (hroom : p.input.length < 4) (line : Text) :
    p.arrive line = { p with input := p.input ++ [line] } := by
  obtain ⟨l, hl⟩ := Option.isSome_iff_exists.mp hhand
  rw [Port.arrive, if_pos hroom, Port.refill]
  simp only [hl]

theorem arrive_of_full {p : Port} (hfull : p.input.length = 4) (line : Text) :
    p.arrive line = match lineTag? line with
      | none => p.countFrame
      | some t => p.give ⟨t, .no .busy⟩ :=
  if_neg (by omega)

/-- Settles O59. -/
theorem linesAreAssembledAndTaken : Obligations.LinesAreAssembledAndTaken := by
  refine ⟨fun s code damaged hno => ?assembled, fun s => ⟨fun hrx hdrop => ?discarded, fun h => ?stopped⟩,
    fun s c hsound hc => ⟨fun hdrop => ?tail, fun line hdrop hline => ?judged⟩, fun s line => ?rejected⟩
  case assembled =>
    show execCharacterReceived code damaged s = _
    rw [execCharacterReceived, if_neg hno, assemble_eq]
  case discarded =>
    rw [assemblyTimerExpiry_exec, if_pos (assembling_iff.mpr ⟨hrx, hdrop⟩)]
    rfl
  case stopped =>
    rw [assemblyTimerExpiry_exec, if_neg]
    rw [assembling_iff]
    rintro ⟨hrx, hdrop⟩
    rcases h with h | h
    · exact hrx h
    · rw [hdrop] at h
      cases h
  case tail => rw [lineEnd_exec hc, Port.endLine, if_pos hdrop]
  case judged =>
    refine ⟨_, lineEnd_exec hc s, ?_⟩
    rw [endLine_of_assembled hdrop (lineOf_eq hline)]
    refine ⟨fun hempty => by rw [hempty, judge_of_empty], fun hbad => (judge_of_bad hbad).trans rfl, fun hne hlen hall => ?_⟩
    rw [judge_of_good hne hlen hall]
    obtain ⟨_, hinput, _⟩ := hsound
    refine ⟨fun hhand => arrive_of_free (p := { s.port with rx := [] }) hhand (hinput hhand) _,
      fun hhand hroom => arrive_of_room (p := { s.port with rx := [] }) hhand hroom _, fun _ hfull => ?_⟩
    rw [arrive_of_full (p := { s.port with rx := [] }) hfull]
    exact ⟨fun tag htag => by rw [htag]; rfl, fun htag => by rw [htag]; rfl⟩
  case rejected =>
    have hexec : exec (.unknownVerb line) s = .next (rejectLine line (s.taken (.unknownVerb line))) := rfl
    refine ⟨fun h => ?_, fun tag h => ?_, fun tag h => ?_⟩ <;> rw [hexec, rejectLine, h] <;> rfl

end Sys2Proof.Machine

/-! # Proofs: a refused request changes nothing (R164 to R166)

One lemma per verb says that its effect leaves the state as it was wherever it answers with another status than OK. -/

namespace Sys2Proof.Machine

open Sys2Proof.Safety

/-- An effect's result that changes nothing where it is a refusal. -/
structure KeepsRefused (s : State) (r : State × Answer) : Prop where
  keeps : r.2.status ≠ .ok → r.1 = s

namespace KeepsRefused

theorem unchanged (s : State) (a : Answer) : KeepsRefused s (s, a) := ⟨fun _ => rfl⟩

theorem accepted {s : State} {r : State × Answer} (h : r.2.status = .ok) : KeepsRefused s r :=
  ⟨fun hno => absurd h hno⟩

theorem of_checked {s : State} {checks : List (Bool × Answer)} {take : State → State × Answer}
    (h : KeepsRefused s (take s)) : KeepsRefused s (checked checks s take) :=
  ⟨checked_keeps h.keeps⟩

/-! ## The map store -/

theorem nodePut (index : Nat) (a : NodeArgs) (s : State) : KeepsRefused s (nodePutEffect index a s) := by
  refine of_checked ?_
  split
  · exact unchanged ..
  · exact accepted rfl

theorem nodeRemove (index : Nat) (a : NodeArgs) (s : State) : KeepsRefused s (nodeRemoveEffect index a s) :=
  of_checked (accepted rfl)

theorem nodeRead (index : Nat) (a : NodeArgs) (s : State) : KeepsRefused s (nodeReadEffect index a s) := by
  refine of_checked ?_
  split <;> exact unchanged ..

theorem segPut (index : Nat) (a : SegArgs) (s : State) : KeepsRefused s (segPutEffect index a s) := by
  refine of_checked ?_
  split
  · exact unchanged ..
  · exact accepted rfl

theorem segRemove (index : Nat) (a : SegArgs) (s : State) : KeepsRefused s (segRemoveEffect index a s) :=
  of_checked (accepted rfl)

theorem segRead (index : Nat) (a : SegArgs) (s : State) : KeepsRefused s (segReadEffect index a s) := by
  refine of_checked ?_
  split <;> exact unchanged ..

theorem segState (index : Nat) (v : OpenState) (s : State) : KeepsRefused s (segStateEffect index v s) := by
  refine of_checked ?_
  split
  · exact unchanged ..
  · exact accepted rfl

theorem segTrim (index trim : Nat) (s : State) : KeepsRefused s (segTrimEffect index trim s) := by
  refine of_checked ?_
  split
  · exact unchanged ..
  · exact accepted rfl

theorem liftWait (group wait : Nat) (s : State) : KeepsRefused s (liftWaitEffect group wait s) := by
  refine of_checked ?_
  split
  · exact unchanged ..
  · exact accepted rfl

theorem liftWaitRead (group : Nat) (s : State) : KeepsRefused s (liftWaitReadEffect group s) := by
  unfold liftWaitReadEffect
  split <;> exact unchanged ..

theorem listingPut (index : Nat) (a : ListingArgs) (s : State) : KeepsRefused s (listingPutEffect index a s) := by
  refine of_checked ?_
  split
  · exact unchanged ..
  · exact accepted rfl

theorem listingRemove (index : Nat) (a : ListingArgs) (s : State) : KeepsRefused s (listingRemoveEffect index a s) :=
  of_checked (accepted rfl)

theorem override (listing : Nat) (w : OverrideWord) (target : Option Nat) (s : State) :
    KeepsRefused s (overrideEffect listing w target s) := by
  refine of_checked ?_
  split
  · exact accepted rfl
  · exact unchanged ..

theorem search (text : Text) (category : Option Nat) (start : Nat) (s : State) :
    KeepsRefused s (searchEffect text category start s) := of_checked (unchanged ..)

theorem lookup (index : Nat) (s : State) : KeepsRefused s (lookupEffect index s) := by
  refine of_checked ?_
  split <;> exact unchanged ..

theorem demandOne (index : Nat) (clear : Bool) (s : State) : KeepsRefused s (demandOneEffect index clear s) := by
  unfold demandOneEffect
  split
  · exact unchanged ..
  · exact accepted rfl

theorem demand (listing clear : Option Nat) (s : State) : KeepsRefused s (demandEffect listing clear s) := by
  refine of_checked ?_
  split
  · exact accepted rfl
  · exact demandOne ..

theorem screenDeclare (screen : Nat) (a : ScreenArgs) (s : State) : KeepsRefused s (screenDeclareEffect screen a s) := by
  refine of_checked ?_
  split
  · exact accepted rfl
  · exact unchanged ..

theorem screenUndeclare (screen : Nat) (a : ScreenArgs) (s : State) : KeepsRefused s (screenUndeclareEffect screen a s) := by
  refine of_checked ?_
  split
  · exact unchanged ..
  · split
    · exact accepted rfl
    · exact unchanged ..

theorem screenRead (screen : Nat) (a : ScreenArgs) (s : State) : KeepsRefused s (screenReadEffect screen a s) := by
  refine of_checked ?_
  split
  · exact unchanged ..
  · split <;> exact unchanged ..

theorem mapClear (s : State) : KeepsRefused s (mapClearEffect s) := of_checked (accepted rfl)

theorem start (s : State) : KeepsRefused s (startEffect s) := by
  refine of_checked ?_
  split
  · exact unchanged ..
  · exact accepted rfl

theorem stop (s : State) : KeepsRefused s (stopEffect s) := of_checked (accepted rfl)

/-! ## The cost tables -/

theorem paceWrite (p : Profile) (kind : Option SegKind) (value : Nat) (s : State) :
    KeepsRefused s (paceWriteEffect p kind value s) := by
  refine of_checked ?_
  split
  · exact unchanged ..
  · exact accepted rfl

theorem paceRead (p : Profile) (kind : Option SegKind) (s : State) : KeepsRefused s (paceReadEffect p kind s) := by
  unfold paceReadEffect
  split <;> exact unchanged ..

theorem multWrite (p : Profile) (cls : Option ZoneClass) (value : Nat) (s : State) :
    KeepsRefused s (multWriteEffect p cls value s) := by
  refine of_checked ?_
  split
  · exact unchanged ..
  · exact accepted rfl

theorem multRead (p : Profile) (cls : Option ZoneClass) (s : State) : KeepsRefused s (multReadEffect p cls s) := by
  unfold multReadEffect
  split <;> exact unchanged ..

/-! ## Routes -/

theorem route (a : RouteArgs) (s : State) : KeepsRefused s (routeEffect a s) := by
  refine of_checked ?_
  split
  · exact accepted rfl
  · exact unchanged ..

theorem routeCancel (id : Nat) (s : State) : KeepsRefused s (routeCancelEffect id s) := by
  refine of_checked ?_
  split
  · exact unchanged ..
  · split
    · exact unchanged ..
    · exact accepted rfl

/-! ## Gates, zones and the census -/

theorem gate (index : Nat) (a : GateArgs) (s : State) : KeepsRefused s (gateEffect index a s) := by
  refine of_checked ?_
  split
  · exact unchanged ..
  · split
    · exact unchanged ..
    · exact accepted rfl

theorem gateRead (index clear : Option Nat) (s : State) : KeepsRefused s (gateReadEffect index clear s) := by
  refine of_checked ?_
  split
  · exact accepted rfl
  · split
    · exact unchanged ..
    · exact accepted rfl

theorem zone (index : Nat) (a : ZoneArgs) (s : State) : KeepsRefused s (zoneEffect index a s) := by
  unfold zoneEffect
  split
  · exact unchanged ..
  · exact of_checked (accepted rfl)

theorem closure (index : Nat) (b : Bool) (s : State) : KeepsRefused s (closureEffect index b s) := by
  unfold closureEffect
  split
  · exact unchanged ..
  · exact accepted rfl

theorem occupancy (index n : Nat) (s : State) : KeepsRefused s (occupancyEffect index n s) := by
  unfold occupancyEffect
  split
  · exact unchanged ..
  · exact accepted rfl

theorem history (next : Option Nat) (s : State) : KeepsRefused s (historyEffect next s) := of_checked (unchanged ..)

theorem zoneRead (index : Option Nat) (s : State) : KeepsRefused s (zoneReadEffect index s) := by
  unfold zoneReadEffect
  split
  · exact unchanged ..
  · split <;> exact unchanged ..

/-! ## Watches -/

theorem watch (index : Nat) (a : WatchArgs) (s : State) : KeepsRefused s (watchEffect index a s) := by
  refine of_checked ?_
  split
  · exact accepted rfl
  · exact unchanged ..

theorem watchArm (index : Nat) (s : State) : KeepsRefused s (watchArmEffect index s) := by
  unfold watchArmEffect
  split
  · exact unchanged ..
  · split
    · exact accepted rfl
    · exact unchanged ..

theorem watchOff (index : Nat) (s : State) : KeepsRefused s (watchOffEffect index s) := by
  unfold watchOffEffect
  split
  · exact unchanged ..
  · exact accepted rfl

theorem watchRead (index : Option Nat) (s : State) : KeepsRefused s (watchReadEffect index s) := by
  unfold watchReadEffect
  split
  · exact unchanged ..
  · split <;> exact unchanged ..

/-! ## Sessions -/

theorem of_takeRequest (s : State) (n : Fin 48) (c : Screen) (withdraws : Bool) (x : ReplyExtras) (f : Session → Session) :
    KeepsRefused s (takeRequest s n c withdraws x f) := by
  unfold takeRequest
  dsimp only
  split <;> exact accepted rfl

theorem of_sessionRequest {screen : Nat} {ranges agree listed : Bool} {s : State} {act : Fin 48 → Screen → State × Answer}
    (h : ∀ n c, KeepsRefused s (act n c)) : KeepsRefused s (sessionRequest screen ranges agree listed s act) := by
  unfold sessionRequest
  split
  · exact unchanged ..
  · split
    · exact unchanged ..
    · exact of_checked (h ..)

theorem nav (screen : Nat) (a : NavArgs) (s : State) : KeepsRefused s (navEffect screen a s) := by
  refine of_sessionRequest fun n c => ?_
  split
  · exact unchanged ..
  · exact of_takeRequest ..

theorem back (restore : Bool) (screen : Nat) (s : State) : KeepsRefused s (backEffect restore screen s) :=
  of_sessionRequest fun _ _ => of_takeRequest ..

theorem home (screen : Nat) (s : State) : KeepsRefused s (homeEffect screen s) :=
  of_sessionRequest fun _ _ => of_takeRequest ..

theorem prefs (screen : Nat) (l : Option Nat) (p : Option Profile) (s : State) :
    KeepsRefused s (prefsEffect screen l p s) := of_sessionRequest fun _ _ => of_takeRequest ..

theorem tap (screen : Nat) (s : State) : KeepsRefused s (tapEffect screen s) :=
  of_sessionRequest fun _ _ => of_takeRequest ..

theorem screenGet (screen : Nat) (s : State) : KeepsRefused s (screenGetEffect screen s) := by
  unfold screenGetEffect
  split
  · exact unchanged ..
  · split
    · exact unchanged ..
    · exact accepted rfl

/-! ## Evacuation and the clock -/

theorem evacEnd (s : State) : KeepsRefused s (evacEndEffect s) := of_checked (accepted rfl)

theorem clock (d m : Nat) (x : Option Nat) (s : State) : KeepsRefused s (clockEffect d m x s) := by
  refine of_checked ?_
  split
  · exact unchanged ..
  · exact accepted rfl

theorem clockRead (s : State) : KeepsRefused s (clockReadEffect s) := by
  unfold clockReadEffect
  split <;> exact unchanged ..

theorem cadence (index : Nat) (a : CadenceArgs) (s : State) : KeepsRefused s (cadenceEffect index a s) := by
  unfold cadenceEffect
  split
  · exact unchanged ..
  · exact of_checked (accepted rfl)

theorem cadenceRead (index : Nat) (s : State) : KeepsRefused s (cadenceReadEffect index s) := by
  unfold cadenceReadEffect
  split <;> exact unchanged ..

theorem cadenceRun (index : Nat) (restart : Option Nat) (s : State) : KeepsRefused s (cadenceRunEffect index restart s) := by
  refine of_checked ?_
  split
  · exact unchanged ..
  · exact accepted rfl

theorem cadenceHalt (index : Nat) (s : State) : KeepsRefused s (cadenceHaltEffect index s) := by
  unfold cadenceHaltEffect
  split
  · exact unchanged ..
  · exact accepted rfl

/-! ## The host port -/

theorem status (clear : Option Nat) (s : State) : KeepsRefused s (statusEffect clear s) := of_checked (accepted rfl)

theorem mask (a : MaskArgs) (s : State) : KeepsRefused s (maskEffect a s) := of_checked (accepted rfl)

end KeepsRefused

/-- A request is answered once under its tag, and keeps the state where it is refused. -/
theorem request_keepsRefused {s : State} {c : Instr} {tag : Nat} {effect : State → State × Answer}
    (hexec : exec c s = respond c tag s effect) (hkeep : ∀ s, KeepsRefused s (effect s)) :
    ∃ (t : State) (a : Answer), exec c s = .next (t.reply tag a) ∧ (a.status ≠ .ok → t = s.taken c) :=
  ⟨_, _, hexec, (hkeep (s.taken c)).keeps⟩

open KeepsRefused in
theorem exec_keepsRefused {s : State} {c : Instr} {tag : Nat} (h : c.tag? = some tag) :
    ∃ (t : State) (a : Answer), exec c s = .next (t.reply tag a) ∧ (a.status ≠ .ok → t = s.taken c) := by
  cases c <;> cases h
  case status clear => exact request_keepsRefused rfl (status clear)
  case fetch => exact request_keepsRefused rfl fun _ => accepted rfl
  case mask a => exact request_keepsRefused rfl (mask a)
  case start => exact request_keepsRefused rfl start
  case stop => exact request_keepsRefused rfl stop
  case mapClear => exact request_keepsRefused rfl mapClear
  case nodePut k a => exact request_keepsRefused rfl (nodePut k a)
  case nodeRemove k a => exact request_keepsRefused rfl (nodeRemove k a)
  case nodeRead k a => exact request_keepsRefused rfl (nodeRead k a)
  case segPut k a => exact request_keepsRefused rfl (segPut k a)
  case segRemove k a => exact request_keepsRefused rfl (segRemove k a)
  case segRead k a => exact request_keepsRefused rfl (segRead k a)
  case segState k v => exact request_keepsRefused rfl (segState k v)
  case segTrim k n => exact request_keepsRefused rfl (segTrim k n)
  case liftWait k n => exact request_keepsRefused rfl (liftWait k n)
  case liftWaitRead k => exact request_keepsRefused rfl (liftWaitRead k)
  case listingPut k a => exact request_keepsRefused rfl (listingPut k a)
  case listingRemove k a => exact request_keepsRefused rfl (listingRemove k a)
  case override k w o => exact request_keepsRefused rfl (override k w o)
  case search x k n => exact request_keepsRefused rfl (search x k n)
  case lookup k => exact request_keepsRefused rfl (lookup k)
  case demand k clear => exact request_keepsRefused rfl (demand k clear)
  case screenDeclare k a => exact request_keepsRefused rfl (screenDeclare k a)
  case screenUndeclare k a => exact request_keepsRefused rfl (screenUndeclare k a)
  case screenRead k a => exact request_keepsRefused rfl (screenRead k a)
  case paceWrite p k v => exact request_keepsRefused rfl (paceWrite p k v)
  case paceRead p k => exact request_keepsRefused rfl (paceRead p k)
  case multWrite p k v => exact request_keepsRefused rfl (multWrite p k v)
  case multRead p k => exact request_keepsRefused rfl (multRead p k)
  case route a => exact request_keepsRefused rfl (route a)
  case routeCancel id => exact request_keepsRefused rfl (routeCancel id)
  case gate k a => exact request_keepsRefused rfl (gate k a)
  case gateRead k clear => exact request_keepsRefused rfl (gateRead k clear)
  case zone k a => exact request_keepsRefused rfl (zone k a)
  case censusPeriod p => exact request_keepsRefused rfl fun _ => accepted rfl
  case censusPeriodRead => exact request_keepsRefused rfl fun _ => accepted rfl
  case zoneClose k => exact request_keepsRefused rfl (closure k true)
  case zoneOpen k => exact request_keepsRefused rfl (closure k false)
  case occupancy k n => exact request_keepsRefused rfl (occupancy k n)
  case censusZero => exact request_keepsRefused rfl fun _ => accepted rfl
  case historyResume => exact request_keepsRefused rfl fun _ => accepted rfl
  case history k => exact request_keepsRefused rfl (history k)
  case zoneRead k => exact request_keepsRefused rfl (zoneRead k)
  case watch k a => exact request_keepsRefused rfl (watch k a)
  case watchArm k => exact request_keepsRefused rfl (watchArm k)
  case watchOff k => exact request_keepsRefused rfl (watchOff k)
  case watchRead k => exact request_keepsRefused rfl (watchRead k)
  case nav k a => exact request_keepsRefused rfl (nav k a)
  case back k => exact request_keepsRefused rfl (back false k)
  case backRestore k => exact request_keepsRefused rfl (back true k)
  case home k => exact request_keepsRefused rfl (home k)
  case prefs k l p => exact request_keepsRefused rfl (prefs k l p)
  case tap k => exact request_keepsRefused rfl (tap k)
  case screenGet k => exact request_keepsRefused rfl (screenGet k)
  case evac => exact request_keepsRefused rfl fun _ => accepted rfl
  case evacEnd => exact request_keepsRefused rfl evacEnd
  case clock d m x => exact request_keepsRefused rfl (clock d m x)
  case clockRead => exact request_keepsRefused rfl clockRead
  case cadence k a => exact request_keepsRefused rfl (cadence k a)
  case cadenceRead k => exact request_keepsRefused rfl (cadenceRead k)
  case cadenceRun k r => exact request_keepsRefused rfl (cadenceRun k r)
  case cadenceHalt k => exact request_keepsRefused rfl (cadenceHalt k)

end Sys2Proof.Machine

/-! # Proofs: requests answered, notices posted and fetched (R164 to R171) -/

namespace Sys2Proof.Machine

open Sys2Proof.Safety

/-! ## The line in the handler's hands (R165) -/

theorem readsAs_of_request {line : Text} {c : Instr} (hreads : readLine line = .request c) (htag : c.tag?.isSome = true) :
    readsAs line c = true := by
  have h : (readLine line == .request c) = true := by rw [hreads]; exact beq_self_eq_true _
  cases c <;> first | exact h | cases htag

theorem answered_of_request {p : Port} {c : Instr} {line : Text} (hhand : p.hand = some line)
    (hreads : readLine line = .request c) (htag : c.tag?.isSome = true) :
    p.answered c = { p with hand := none }.refill := by
  rw [Port.answered, hhand]
  exact if_pos (readsAs_of_request hreads htag)

theorem refill_of_none (p : Port) (h : p.input = []) : { p with hand := none }.refill = { p with hand := none } := by
  rw [Port.refill]
  simp only [h]

theorem refill_of_waiting (p : Port) {next : Text} {rest : List Text} (h : p.input = next :: rest) :
    { p with hand := none }.refill = { p with hand := some next, input := rest } := by
  rw [Port.refill]
  simp only [h]

/-! ## FETCH, MASK and STATUS (R169 to R171) -/

theorem taken_notices (s : State) (c : Instr) : (s.taken c).port.notices = s.port.notices := by
  obtain ⟨_, _, _, _, hnotices, _, _⟩ := s.port.answered_frame c
  exact hnotices

theorem taken_lost (s : State) (c : Instr) : (s.taken c).port.lost = s.port.lost := by
  obtain ⟨_, _, _, _, _, hlost, _⟩ := s.port.answered_frame c
  exact hlost

theorem taken_mask (s : State) (c : Instr) : (s.taken c).port.mask = s.port.mask := by
  obtain ⟨_, _, _, _, _, _, hmask⟩ := s.port.answered_frame c
  exact hmask

theorem taken_frames (s : State) (c : Instr) : (s.taken c).port.frames = s.port.frames := by
  obtain ⟨_, _, _, hframes, _⟩ := s.port.answered_frame c
  exact hframes

theorem fetchAnswer_eq (p : Port) : fetchAnswer p = .okLines
    [(.more, .num (if 8 < p.notices.length then 1 else 0)), (.lost, .num (if p.lost then 1 else 0))]
    ((p.notices.take 8).map noticeLine) := by
  rw [fetchAnswer, flagVal_decide]
  rfl

theorem fetchAnswer_congr {p q : Port} (hnotices : p.notices = q.notices) (hlost : p.lost = q.lost) :
    fetchAnswer p = fetchAnswer q := by
  rw [fetchAnswer, fetchAnswer, hnotices, hlost]

theorem fetched_eq (s : State) : s.fetched
    = (s.withPort { s.port with notices := s.port.notices.drop 8, lost := false }).withQueue { s.queue with
        outstanding := s.queue.outstanding - ((s.port.notices.take 8).filter Notice.isResult).length } := by
  rw [State.fetched, resultCount, List.countP_eq_length_filter]

theorem fetch_exec (s : State) (tag : Nat) : exec (.fetch tag) s
    = .next ((s.taken (.fetch tag)).fetched.settle.reply tag (fetchAnswer s.port)) :=
  exec_of_effect (effect := fetchEffect) rfl
    (congrArg (Prod.mk _) (fetchAnswer_congr (taken_notices ..) (taken_lost ..)))

theorem maskInRange_iff {a : MaskArgs} : maskInRange a = true ↔
    ∀ v, (v ∈ a.routeResult ∨ v ∈ a.zoneClass ∨ v ∈ a.gateFault ∨ v ∈ a.gateClear ∨ v ∈ a.watch ∨ v ∈ a.hours
      ∨ v ∈ a.evac ∨ v ∈ a.cadence) → v ≤ 1 := by
  simp only [maskInRange, Bool.and_eq_true, optLe_iff, or_imp, forall_and, and_assoc]

theorem mask_exec {s : State} {tag : Nat} {a : MaskArgs} {m : NoticeMask} (hrange : maskInRange a = true)
    (hagree : a.routeResult ≠ some 0) (hm : m = s.port.mask.update a) :
    exec (.mask tag a) s = .next (((s.taken (.mask tag a)).withPort { (s.taken (.mask tag a)).port with mask := m }).reply
      tag (.ok (maskFields m))) := by
  refine exec_of_pass (effect := maskEffect a) rfl rfl (by simp [inRange, agrees, hrange, hagree]) ?_
  dsimp only
  rw [taken_mask, hm]

theorem mask_conflict {s : State} {tag : Nat} {a : MaskArgs} (hrange : maskInRange a = true) (hno : a.routeResult = some 0) :
    exec (.mask tag a) s = .next ((s.taken (.mask tag a)).reply tag (.no .conflict)) :=
  exec_of_fail (effect := maskEffect a) rfl rfl (by simp [firstFailing, inRange, agrees, hrange, hno])

theorem busy_eq (u : Units) : u.busy = u.a.toList.length + u.b.toList.length := by
  rw [Units.busy, Units.entries]
  simp

theorem statusFields_eq (s : State) : statusFields s =
    [(.family, .word .uviaro), (.part, .word .wx320), (.rev, .word .b), (.mode, .word (engineModeWord s.map.mode)),
     (.evac, .word (evacStateWord s.evac.state)), (.gen, .num s.map.generation), (.queued, .num s.queue.entries.length),
     (.busy, .num (s.units.a.toList.length + s.units.b.toList.length)), (.outstanding, .num s.queue.outstanding),
     (.notices, .num s.port.notices.length), (.lost, .num (if s.port.lost then 1 else 0)), (.frames, .num s.port.frames),
     (.tick, .num s.census.tick), (.clock, .word (if s.clock.clock = none then .isUnset else .isSet)),
     (.failures, .num s.watches.failures)] := by
  have hclock : (if s.clock.clock.isSome then Kw.isSet else Kw.isUnset)
      = if s.clock.clock = none then .isUnset else .isSet := by cases s.clock.clock <;> rfl
  rw [statusFields, busy_eq, hclock]
  rfl

theorem status_exec {s : State} {tag : Nat} {clear : Option Nat} (hclear : ∀ v ∈ clear, v ≤ 1) :
    exec (.status tag clear) s = .next ((if clear = some 1 then
        (s.taken (.status tag clear)).withWatches { s.watches with failures := 0 }
      else s.taken (.status tag clear)).reply tag (.ok (statusFields s))) := by
  refine exec_of_pass (effect := statusEffect clear) rfl rfl (by simp [inRange, optLe_iff.mpr hclear]) ?_
  have hfields : statusFields (s.taken (.status tag clear)) = statusFields s := by
    simp only [statusFields, taken_notices, taken_lost, taken_frames, State.taken_map, State.taken_evac, State.taken_queue,
      State.taken_units, State.taken_census, State.taken_clock, State.taken_watches]
  dsimp only
  rw [hfields]
  by_cases h : clear = some 1 <;> simp [flagSet, h]

/-! ## The notice queue (R66, R167) -/

theorem shedOldest_of_results (before : List RouteResult) {old : Notice} (after : List Notice)
    (hold : ∀ r, old ≠ .routeResult r) :
    shedOldest (before.map Notice.routeResult ++ old :: after) = before.map Notice.routeResult ++ after := by
  induction before with
  | nil =>
    cases old with
    | routeResult r => exact absurd rfl (hold r)
    | _ => rfl
  | cons r before ih => exact congrArg (List.cons _) ih

theorem post_of_masked {p : Port} {n : Notice} (h : p.mask.queues (noticeKindOf n) = false) : p.post n = p := by
  rw [Port.post, h]
  rfl

theorem post_of_room {p : Port} {n : Notice} (h : p.mask.queues (noticeKindOf n) = true) (hroom : p.notices.length < 32) :
    p.post n = { p with notices := p.notices ++ [n] } := by
  rw [Port.post, if_pos h, if_pos hroom]

theorem post_of_full {p : Port} {n : Notice} (h : p.mask.queues (noticeKindOf n) = true) (hfull : 32 ≤ p.notices.length) :
    p.post n = { p with notices := shedOldest p.notices ++ [n], lost := true } := by
  rw [Port.post, if_pos h, if_neg (by omega)]

/-- Settles O60. -/
theorem requestsAreAnswered : Obligations.RequestsAreAnswered := by
  refine ⟨fun s c line hhand hreads htag => ⟨fun hinput => ?alone, fun next rest hinput => ?next⟩, fun s r rest htx => ?sent,
    fun s tag => ?fetch, fun s tag a m hrange hm => ?mask, fun s tag clear hclear => ?status, fun p n queued hq => ?post,
    fun n => ?line, fun m => rfl, fun s c tag htag => exec_keepsRefused htag⟩
  case alone =>
    rw [State.taken, answered_of_request hhand hreads htag, refill_of_none _ hinput]
  case next =>
    rw [State.taken, answered_of_request hhand hreads htag, refill_of_waiting _ hinput]
  case sent =>
    have hexec : exec .replyTransmitted s = .next (s.withPort { s.port with tx := s.port.tx.drop 1 }) := rfl
    rw [hexec, htx]
    rfl
  case fetch =>
    refine ⟨(s.taken (.fetch tag)).fetched, ?_, ?_⟩
    · rw [fetch_exec, fetchAnswer_eq]
    · rw [fetched_eq, taken_notices, State.taken_queue]
  case mask =>
    have hrange' := maskInRange_iff.mpr hrange
    exact ⟨fun hagree => mask_exec hrange' hagree hm, fun hno => mask_conflict hrange' hno⟩
  case status =>
    rw [status_exec hclear, statusFields_eq]
  case post =>
    have hqueues : p.mask.queues (noticeKindOf n) = queued := by
      rw [hq]
      cases n <;> rfl
    refine ⟨fun h => post_of_masked (hqueues.trans h), fun h => post_of_room (hqueues.trans h),
      fun before old after h hfull hnotices hold => ?_⟩
    rw [post_of_full (hqueues.trans h) hfull, hnotices, shedOldest_of_results before after hold]
  case line =>
    cases n with
    | routeResult r =>
      obtain ⟨id, screen, cls, outcome, flags, listing, arrival, cost, eta, generation, legs⟩ := r
      cases screen <;> cases cls <;> cases listing <;> cases arrival <;> rfl
    | gateFault g beam w => cases beam <;> rfl
    | watch i a v t c => cases a <;> rfl
    | _ => rfl

end Sys2Proof.Machine
